-- ==== Sys2Proof/Word.lean ====
section
/-! DEFINITION. The machine's one data unit: the 32-bit word of rule R10, and the byte it is serialised to
(rule R61). Bit 31 is the most significant bit of a word, bit 0 the least significant. -/

namespace Sys2Proof

/-- A word is an unsigned 32-bit integer (R10). Every register, memory cell and bank element holds one. -/
abbrev Word := BitVec 32

/-- A byte, as the host serialises words (R61). The engine itself has no byte accesses (R62). -/
abbrev Byte := BitVec 8

end Sys2Proof
end

