-- ==== Sys2Proof/Syntax.lean ====
section
/-! DEFINITION. The command set (one constructor for each row of the opcode table, R91), the command word's format
(R90), and the host's vocabulary: CSR names (R21), the four accesses (R95, R200), the events one step consumes, and
the script statements (R96, R97). -/

namespace Sys2Proof

/-- The four commands of R91. None carries an operand (R93): the operands are R, N and BLK as they stand. -/
inductive Instr where
  /-- `BLK[0..15] <- Salsa8(BLK[0..15])` (R132). -/
  | salsa
  /-- `BLK[0..32r-1] <- BlockMix(BLK[0..32r-1], r)` (R158). -/
  | bmix
  /-- `IFY <- BLK[32r-16]` (R171). -/
  | intfy
  /-- `BLK[0..32r-1] <- ROMix(BLK[0..32r-1], r, n)` (R182). -/
  | romix
deriving DecidableEq, Repr

/-- Format C, the one format of a command word (R90): ZERO is bits 31:8, OPC is bits 7:0. -/
structure FormatC where
  zero : BitVec 24
  opc  : BitVec 8
deriving DecidableEq, Repr

/-- The assigned control and status registers (R21). -/
inductive Csr where
  | cmd | status | r | n | ify | j
deriving DecidableEq, Repr

/-- A host access is an abstract triple (kind, word address, data) with no bit encoding (R95). Addresses and CSR
indices are natural numbers (R21, R60). -/
inductive Access where
  /-- RCSR, read a CSR (R201). -/
  | rcsr (index : Nat)
  /-- WCSR, write a CSR (R202). -/
  | wcsr (index : Nat) (value : Word)
  /-- RBLK, read a block word (R203). -/
  | rblk (addr : Nat)
  /-- WBLK, write a block word (R204). -/
  | wblk (addr : Nat) (value : Word)
deriving DecidableEq, Repr

/-- One move of one of the two agents, or reset (R5, R231). The moves are totally ordered in any execution (R200);
a list of them in State says who moves next. -/
inductive Event where
  /-- The host makes one access (R200). -/
  | host (a : Access)
  /-- The engine takes one micro-step (R183). -/
  | engine
  /-- A whole command taken as one transition, from issue to completion (R69, R184). -/
  | command (w : Word)
  /-- The host polls STATUS until BUSY = 0, the engine running meanwhile (R97 `wait`). -/
  | wait
  /-- The Reset event (R250). -/
  | reset
deriving DecidableEq, Repr

/-- The `<csr>` of a script statement: one of the six names of R96, or a bare index, as vector E12 of
95_test_vectors.md writes it (`wcsr 9, 7`). That both are statements is a DESIGN CHOICE (log 15): R96 lists the names
only. -/
inductive CsrRef where
  | named (c : Csr)
  | index (i : Nat)
deriving DecidableEq, Repr

/-- What an `expect` statement reads (R97). -/
inductive Target where
  | csr (c : CsrRef)
  | blk (addr : Nat)
deriving DecidableEq, Repr

/-- The statements of a host script: the four primitives of R96, then the pseudo-statements of R97. -/
inductive Stmt where
  | wcsr (c : CsrRef) (value : Word)
  | rcsr (c : CsrRef)
  | wblk (addr : Nat) (value : Word)
  | rblk (addr : Nat)
  | cmd (i : Instr)
  | wait
  | run (i : Instr)
  | ldw (addr : Nat) (words : List Word)
  | ldb (addr : Nat) (bytes : List Byte)
  | expect (t : Target) (value : Word)
deriving DecidableEq, Repr

end Sys2Proof
end

