-- ==== Sys2Proof/WellFormed.lean ====
section
/-! DEFINITION. Which terms of the syntax the spec allows. A command carries no operand (R93), so the checks on a
command are those of its word's two fields; the other checks are those of the script statements that name a list. -/

namespace Sys2Proof

/-- R90: bits 31:8 of a command word must be 0. -/
def FormatC.zeroClear (f : FormatC) : Bool := f.zero == 0

/-- R91: the assigned opcodes are 0x01 to 0x04; R92: every other one is illegal. -/
def FormatC.opcodeAssigned (f : FormatC) : Bool := 1 ≤ f.opc.toNat && f.opc.toNat ≤ 4

/-- A format C word that names a command (R90 to R92). -/
def FormatC.wf (f : FormatC) : Bool := f.zeroClear && f.opcodeAssigned

/-- R93: a command has no operand that could be ill-formed. -/
def Instr.wf : Instr → Bool
  | .salsa => true
  | .bmix => true
  | .intfy => true
  | .romix => true

/-- R97: `ldw` lists at least one word. -/
def ldwListOk (words : List Word) : Bool := !words.isEmpty

/-- R97: `ldb` lists `4m + 4` bytes, that is a positive number of whole words. -/
def ldbListOk (bytes : List Byte) : Bool := !bytes.isEmpty && bytes.length % 4 == 0

/-- A script statement as R96 and R97 write it. -/
def Stmt.wf : Stmt → Bool
  | .wcsr _ _ => true
  | .rcsr _ => true
  | .wblk _ _ => true
  | .rblk _ => true
  | .cmd i => i.wf
  | .wait => true
  | .run i => i.wf
  | .ldw _ words => ldwListOk words
  | .ldb _ bytes => ldbListOk bytes
  | .expect _ _ => true

end Sys2Proof
end

