-- ==== Sys2Proof/Decode.lean ====
section
/-! DEFINITION. The decoder of command words, total on all 2^32 of them and rejecting by name, and after it the
encoder. A command word is a 32-bit value, not a byte sequence (R71), so nothing here depends on a byte order. -/

namespace Sys2Proof

/-- Why a word is illegal (R92). -/
inductive Illegal where
  /-- ZERO is not 0, whatever OPC is. -/
  | zeroField
  /-- ZERO is 0 and OPC is 0x00 or 0x05 to 0xFF. -/
  | opcode
deriving DecidableEq, Repr

/-- The two fields of a command word (R90). -/
def FormatC.ofWord (w : Word) : FormatC := ⟨w.extractLsb' 8 24, w.extractLsb' 0 8⟩

/-- The command word with the given fields (R90). -/
def FormatC.word (f : FormatC) : Word := f.zero ++ f.opc

/-- The opcode of each command (R91). -/
def opcode : Instr → BitVec 8
  | .salsa => 0x01
  | .bmix => 0x02
  | .intfy => 0x03
  | .romix => 0x04

/-- R91: the command that an opcode names, if any. -/
def ofOpcode (opc : BitVec 8) : Option Instr :=
  if opc = 0x01 then some .salsa
  else if opc = 0x02 then some .bmix
  else if opc = 0x03 then some .intfy
  else if opc = 0x04 then some .romix
  else none

/-- R90 to R92: the command a word stands for, or the reason why it is illegal. -/
def decode (w : Word) : Except Illegal Instr :=
  if (FormatC.ofWord w).zeroClear then
    match ofOpcode (FormatC.ofWord w).opc with
    | some i => .ok i
    | none => .error .opcode
  else .error .zeroField

/-- The word of a command, put together from its format C fields (R90, R91). -/
def encode (i : Instr) : Word := FormatC.word ⟨0, opcode i⟩

/-- One row of the opcode table: a word is the row's when `word & mask == pattern` (R91). -/
structure OpcodeRow where
  mask    : Word
  pattern : Word
  instr   : Instr
deriving DecidableEq, Repr

/-- The opcode table (R91; spec/opcode_table.json). -/
def opcodeTable : List OpcodeRow :=
  [⟨0xFFFFFFFF, 0x00000001, .salsa⟩, ⟨0xFFFFFFFF, 0x00000002, .bmix⟩,
   ⟨0xFFFFFFFF, 0x00000003, .intfy⟩, ⟨0xFFFFFFFF, 0x00000004, .romix⟩]

/-- R91: does the word match the row's pattern under its mask. -/
def OpcodeRow.matches (row : OpcodeRow) (w : Word) : Bool := w &&& row.mask == row.pattern

/-- The first row of the opcode table that a word matches (R91). -/
def tableDecode (w : Word) : Option Instr :=
  (opcodeTable.find? fun row => row.matches w).map (·.instr)

/-- The command word made of the low `nbits` bits of `w`; every bit above them is 0. -/
def fetchedWord (nbits w : Nat) : Word := BitVec.ofNat 32 (w % 2 ^ nbits)

/-- The instruction the decoder reads from a table row's bits. A command word has 32 bits (R90), so a longer one is
none (DESIGN CHOICE, log 14). -/
def decodeTableWord (nbits w : Nat) : Option Instr :=
  if nbits ≤ 32 then
    match decode (fetchedWord nbits w) with
    | .ok i => some i
    | .error _ => none
  else none

end Sys2Proof
end

