-- ==== Sys2Proof/Config.lean ====
section
/-! DEFINITION. What the spec leaves to an implementation or leaves unspecified. Every constant here has no body:
nothing in Lean can evaluate it, so a claim proved of the model holds whatever it is. -/

namespace Sys2Proof

/-- The places whose value the spec leaves unspecified (R40, R206; 93_implementation_defined.md U5 to U9). -/
inductive Source where
  /-- A host read of any CSR but STATUS while BUSY = 1 (R201, R206). -/
  | busCsr
  /-- A host read of any BLK word while BUSY = 1 (R203, R206). -/
  | busBlk
  /-- A word of BLK that nothing has written since reset (R29, R40). -/
  | blk
  /-- A word of Y that nothing has written since reset (R33, R40). -/
  | y
  /-- A word of V that nothing has written since reset (R34, R40). -/
  | v
  /-- A word of the bank XS right after reset (R30, R40). -/
  | xs
  /-- A word of the bank IN right after reset (R31, R40). -/
  | inB
  /-- A word of the bank B right after reset (R32, R40). -/
  | b
deriving DecidableEq, Repr

/-- DESIGN CHOICE (log 1): the unspecified word that draw number `draw` finds at index `index` of `src`. It has no
value in Lean. Two draws have different numbers, so nothing makes two reads of one unwritten word agree, as R40
demands. -/
opaque Config.unspecified (src : Source) (draw index : Nat) : Word

/-- R8: `R_MAX - 1`. The capacity `R_MAX` is an open parameter that is at least 1. -/
opaque Config.rMaxLessOne : Nat

/-- R8: `V_WORDS`, the capacity of the scratch table in words, an open parameter. -/
opaque Config.vWords : Nat

end Sys2Proof
end

