-- ==== Sys2Proof/Machine/State.lean ====
section
/-! DEFINITION. Everything the spec gives the machine (R20), as plain data, together with the model's own fields (the
capacities, the draw counter, the agenda of moves and the last host read), the reasons a step can stop, and the state
right after reset (R40, R250). -/

namespace Sys2Proof.Machine

/-- A word of memory at a word address (R60, R62: no space is byte-addressed). -/
abbrev Cell := Nat × Word

/-- A memory space: the words written since reset. An address that is not listed has been written by nothing, and its
content is unspecified (R40). -/
abbrev Memory := List Cell

/-- The canonical form: addresses strictly rising, so equal memories are equal lists. Every listed value is one that
was written, so no entry repeats what an unlisted address reads as (log 2). -/
abbrev Memory.wf (m : Memory) : Prop := m.Pairwise fun p q => p.1 < q.1

/-- Every listed address is one of the space's `size` word addresses (R60). -/
abbrev Memory.within (m : Memory) (size : Nat) : Prop := ∀ p ∈ m, p.1 < size

/-- A bank of 16 words (R30 to R32); also a 16-word chunk of a block (R150). -/
abbrev Bank := Vector Word 16

/-- STATUS (R23). Its reserved bits 3:2 and 31:8 read as 0 and hold no state (DEDUCED, log 8). -/
structure Status where
  /-- Bit 0: a command is running. -/
  busy : Bool
  /-- Bit 1: the most recently issued command was accepted and has completed. -/
  done : Bool
  /-- Bits 7:4: the verdict of the most recent issue. -/
  err  : BitVec 4
deriving DecidableEq, Repr

/-- SEQ.OP, the command in progress (R35). -/
inductive Op where
  | none | salsa | bmix | intfy | romix
deriving DecidableEq, Repr

/-- SEQ.MS, the label of the next micro-step (R35, R183). -/
inductive MicroLabel where
  | idle
  | kLoadX | kStoreX
  | sLoad | sDr | sFf
  | mInit | mXor | mStore | mCommit
  | fIfy
  | qInit | qSnap | qNext | qIdx | qXor
  | finish
deriving DecidableEq, Repr

/-- SEQ.PASS, the pass of a ROMIX (R35). -/
inductive Pass where
  | fill | mix
deriving DecidableEq, Repr

/-- SEQ, the sequencer position (R35), which plays the part of a program counter (R36). -/
structure SeqPos where
  /-- The command in progress. -/
  op   : Op
  /-- The label of the next micro-step. -/
  ms   : MicroLabel
  /-- The pass of a ROMIX. -/
  pass : Pass
  /-- The step counter within a pass, `0 <= I <= n`. -/
  i    : Nat
  /-- The chunk counter within a BlockMix, `0 <= C <= 2r`. -/
  c    : Nat
  /-- The doubleround counter within a Salsa20/8 evaluation, `0 <= D <= 4`. -/
  d    : Nat
deriving DecidableEq, Repr

/-- The capacities of R8, which the model takes as arguments. `rMaxLessOne` is `R_MAX - 1`, so that `R_MAX >= 1` holds
of every value. No step changes them (R38). -/
structure Params where
  rMaxLessOne : Nat
  vWords      : Nat
deriving DecidableEq, Repr

/-- `R_MAX`, the largest block-size factor BLK and Y hold (R8). -/
abbrev Params.rMax (p : Params) : Nat := p.rMaxLessOne + 1

/-- The size of BLK and of Y in words, `32·R_MAX` (R29, R33). -/
abbrev Params.blkWords (p : Params) : Nat := 32 * p.rMax

/-- The complete state of the engine (R20) and the model's own fields. CMD has no storage (R22). -/
structure State where
  /-- STATUS, CSR index 1 (R23). -/
  status : Status
  /-- R, CSR index 2: the block-size factor (R24). -/
  r      : Word
  /-- N, CSR index 3: the cost factor (R25). -/
  n      : Word
  /-- IFY, CSR index 4: the last Integerify result (R26). -/
  ify    : Word
  /-- J, CSR index 5: the last table index of a mix step (R27). -/
  j      : Word
  /-- BLK, the block memory of `32·R_MAX` words (R29). -/
  blk    : Memory
  /-- XS, the running state of BlockMix and the input and output of Salsa20/8 (R30). -/
  xs     : Bank
  /-- IN, the Salsa20/8 input kept for the feed-forward (R31). -/
  inB    : Bank
  /-- B, the Salsa20/8 working state (R32). -/
  b      : Bank
  /-- Y, the BlockMix output buffer of `32·R_MAX` words (R33). -/
  y      : Memory
  /-- V, the scratch table of `V_WORDS` words (R34). -/
  v      : Memory
  /-- SEQ, the sequencer position (R35). -/
  seq    : SeqPos
  /-- The model's own: the capacities of this engine (R8, R38; log 5). -/
  params : Params
  /-- The model's own: the number of the next draw of unspecified values (log 1). -/
  draws  : Nat
  /-- The model's own: the moves still to come, the next one first (R200, R231; log 3). -/
  agenda : List Event
  /-- The model's own: the word the last host read returned, if the host has read anything (R201, R203;
  log 4). -/
  reply  : Option Word
deriving DecidableEq, Repr

/-- Why the engine stops. No fault is reachable from reset: R63 and R220 say that nothing can fail once a command has
been accepted, and an obligation states it (log 9). All five are safe: they stop where the spec gives no behaviour. -/
inductive Fault where
  /-- SEQ holds a combination of OP, label and counters for which R183 has no row. Raised by the sequencer. Safe. -/
  | sequence
  /-- The engine forms an address outside BLK, or asks for the last chunk of a block of no words. Raised by the BLK
  reads and writes of the micro-steps. Safe. -/
  | blkRange
  /-- The engine forms an address outside Y. Raised by M_STORE and M_COMMIT. Safe. -/
  | yRange
  /-- The engine forms an address outside V. Raised by Q_SNAP and Q_XOR. Safe. -/
  | vRange
  /-- The index reduction of R172 with `n = 0`, for which no remainder is defined. Raised by Q_IDX. Safe. -/
  | zeroModulus
deriving DecidableEq, Repr

/-- Why an instruction has no meaning. Every command has one, so nothing raises this. -/
inductive Refusal where
  /-- The instruction with this mnemonic is not modelled. Safe. -/
  | notModelled (mnemonic : String)
deriving DecidableEq, Repr

/-- What a move or a micro-step answers. -/
abbrev Result := Host.Outcome State Fault Refusal

/-- The sequencer position after reset (R40). -/
def SeqPos.atReset : SeqPos := ⟨.none, .idle, .fill, 0, 0, 0⟩

/-- A bank whose 16 words are unspecified (R40): no value that Lean can evaluate (DESIGN CHOICE, log 7). -/
def Bank.unspecified (src : Source) (draw : Nat) : Bank :=
  Vector.ofFn fun k => Config.unspecified src draw k

/-- The state that a reset leaves (R40, R250), the model's own fields being given: the CSRs are 0, SEQ is idle, and
BLK, XS, IN, B, Y and V are unspecified. -/
def State.afterReset (params : Params) (draw : Nat) (agenda : List Event) (reply : Option Word) : State where
  status := ⟨false, false, 0⟩
  r := 0
  n := 0
  ify := 0
  j := 0
  blk := []
  xs := .unspecified .xs draw
  inB := .unspecified .inB draw
  b := .unspecified .b draw
  y := []
  v := []
  seq := .atReset
  params := params
  draws := draw + 1
  agenda := agenda
  reply := reply

/-- The machine right after reset, with no move pending and the open capacities of R8. -/
def State.reset : State := .afterReset ⟨Config.rMaxLessOne, Config.vWords⟩ 0 [] none

/-! One named update for each field. -/

def State.setStatus (s : State) (x : Status) : State := { s with status := x }
def State.setR (s : State) (x : Word) : State := { s with r := x }
def State.setN (s : State) (x : Word) : State := { s with n := x }
def State.setIfy (s : State) (x : Word) : State := { s with ify := x }
def State.setJ (s : State) (x : Word) : State := { s with j := x }
def State.setBlk (s : State) (x : Memory) : State := { s with blk := x }
def State.setXs (s : State) (x : Bank) : State := { s with xs := x }
def State.setInB (s : State) (x : Bank) : State := { s with inB := x }
def State.setB (s : State) (x : Bank) : State := { s with b := x }
def State.setY (s : State) (x : Memory) : State := { s with y := x }
def State.setV (s : State) (x : Memory) : State := { s with v := x }
def State.setSeq (s : State) (x : SeqPos) : State := { s with seq := x }
def State.setDraws (s : State) (x : Nat) : State := { s with draws := x }
def State.setAgenda (s : State) (x : List Event) : State := { s with agenda := x }
def State.setReply (s : State) (x : Option Word) : State := { s with reply := x }

end Sys2Proof.Machine
end

