-- ==== Sys2Proof/Machine/Flags.lean ====
section
/-! DEFINITION. The engine's only flags, the STATUS fields (R23, R37): the word a host read returns, and what command
issue (R205), rejection (R228) and FINISH (R180) make of them. No arithmetic records a flag (R37). -/

namespace Sys2Proof.Machine

/-- The word a read of STATUS returns (R23): BUSY is bit 0, DONE bit 1, ERR bits 7:4, and every other bit is 0. -/
def Status.word (st : Status) : Word :=
  (st.err.setWidth 32 <<< 4) ||| (BitVec.ofBool st.done).setWidth 32 <<< 1 ||| (BitVec.ofBool st.busy).setWidth 32

/-- Nothing has been issued since reset (R23, R40). -/
def Status.initial : Status := ⟨false, false, 0⟩

/-- A command has been accepted and runs: BUSY = 1, DONE = 0, ERR = 0 (R205). -/
def Status.running : Status := ⟨true, false, 0⟩

/-- A command has been rejected: ERR is the code, DONE = 0, BUSY stays 0 (R228). -/
def Status.rejected (code : BitVec 4) : Status := ⟨false, false, code⟩

/-- FINISH: BUSY <- 0, DONE <- 1, ERR stays as it is (R180). -/
def Status.finished (st : Status) : Status := ⟨false, true, st.err⟩

end Sys2Proof.Machine
end

