-- ==== Sys2Proof/Machine/Operands.lean ====
section
/-! DEFINITION. The implicit operands of the commands (R93): the parameters R and N as naturals, the word addresses of
chunks (R66, R150), of BlockMix destinations (R154) and of table slots (R65), the CSR an index selects (R21), and the
verdict on a command's parameters (R221 to R227). -/

namespace Sys2Proof.Machine

/-- `r`, the content of register R as a natural number (R24). -/
def State.rNat (s : State) : Nat := s.r.toNat

/-- `n`, the content of register N as a natural number (R25). -/
def State.nNat (s : State) : Nat := s.n.toNat

/-- The number of words of the active extent, `32·r` (R29). -/
def extent (r : Nat) : Nat := 32 * r

/-- The word address of chunk `c` (R66, R150). -/
def chunkAddr (c : Nat) : Nat := 16 * c

/-- The word address of the last chunk, `32·r - 16` (R66, R151, R170), of a block with `r >= 1`. -/
def lastChunkAddr (r : Nat) : Nat := 32 * r - 16

/-- The 16-word position of the output that receives the result of chunk `i` (R154): even chunks fill the first half,
odd chunks the second. -/
def dst (i r : Nat) : Nat := if i % 2 = 0 then i / 2 else r + (i - 1) / 2

/-- The chunk whose result the output position `p` receives (R160: `dst(·, r)` is a bijection). -/
def dstInverse (p r : Nat) : Nat := if p < r then 2 * p else 2 * (p - r) + 1

/-- The word address in V of slot `i` of a table with block-size factor `r` (R65). -/
def slotAddr (i r : Nat) : Nat := i * 32 * r

/-- The assigned CSR an index selects; every other index is reserved (R21, R28). -/
def csrOfIndex : Nat → Option Csr
  | 0 => some .cmd
  | 1 => some .status
  | 2 => some .r
  | 3 => some .n
  | 4 => some .ify
  | 5 => some .j
  | _ => none

/-- The index of a CSR (R21). -/
def csrIndex : Csr → Nat
  | .cmd => 0
  | .status => 1
  | .r => 2
  | .n => 3
  | .ify => 4
  | .j => 5

/-- The verdict of a command issue (R221). -/
inductive Verdict where
  /-- E_NONE: accepted. -/
  | accepted
  /-- E_PARAM_R: `R = 0` (R222). -/
  | paramR
  /-- E_PARAM_N: `N = 0` (R223). -/
  | paramN
  /-- E_RES_BLK: `R > R_MAX` (R224). -/
  | resBlk
  /-- E_RES_V: `N·32·R > V_WORDS` (R225). -/
  | resV
  /-- E_ILLCMD: not a legal command word (R226). -/
  | illCmd
deriving DecidableEq, Repr

/-- The code of a verdict, as STATUS.ERR holds it (R221). -/
def verdictCode : Verdict → BitVec 4
  | .accepted => 0
  | .paramR => 1
  | .paramN => 2
  | .resBlk => 3
  | .resV => 4
  | .illCmd => 5

/-- R227 after the decode: the verdict on command `i` with R = `r` and N = `n`. The first condition that holds is
reported, and the product is over the naturals (R12, R225). -/
def checkInstr (i : Instr) (r n : Nat) (p : Params) : Verdict :=
  match i with
  | .salsa => .accepted
  | .bmix => if r = 0 then .paramR else if r > p.rMax then .resBlk else .accepted
  | .intfy => if r = 0 then .paramR else if r > p.rMax then .resBlk else .accepted
  | .romix =>
    if r = 0 then .paramR
    else if n = 0 then .paramN
    else if r > p.rMax then .resBlk
    else if n * 32 * r > p.vWords then .resV
    else .accepted

/-- R227: the function `Check(w, R, N)`. -/
def check (w r n : Word) (p : Params) : Verdict :=
  match decode w with
  | .error _ => .illCmd
  | .ok i => checkInstr i r.toNat n.toNat p

/-- The value of SEQ.OP for each command (R35, R205). -/
def opOf : Instr → Op
  | .salsa => .salsa
  | .bmix => .bmix
  | .intfy => .intfy
  | .romix => .romix

/-- The first micro-step of each command (R205). -/
def firstLabel : Instr → MicroLabel
  | .salsa => .kLoadX
  | .bmix => .mInit
  | .intfy => .fIfy
  | .romix => .qInit

/-- The number of micro-steps of an accepted command (R185). -/
def microStepCount (i : Instr) (r n : Nat) : Nat :=
  match i with
  | .salsa => 9
  | .bmix => 16 * r + 3
  | .intfy => 2
  | .romix => n * (32 * r + 9) + 2

end Sys2Proof.Machine
end

