-- ==== Sys2Proof/Machine/Ops.lean ====
section
/-! DEFINITION. The named operations over memory and registers that every micro-step and host access is made of: reads
and writes of one word and of runs of words, draws of unspecified values, the engine's bounded accesses to BLK, Y and V
(R13, R63), the move of the sequencer, and the one exception mechanism: rejection (R228). -/

namespace Sys2Proof.Machine

/-! ### Memory -/

/-- The word at an address, if anything has written it since reset. -/
def Memory.read? : Memory → Nat → Option Word
  | [], _ => none
  | (b, w) :: rest, a => if a = b then some w else Memory.read? rest a

/-- MemWrite (R13): one word, keeping the addresses strictly rising. -/
def Memory.write : Memory → Nat → Word → Memory
  | [], a, v => [(a, v)]
  | (b, w) :: rest, a, v =>
    if a < b then (a, v) :: (b, w) :: rest
    else if a = b then (a, v) :: rest
    else (b, w) :: Memory.write rest a v

/-- The ranged write of R13: the listed words at consecutive addresses from `a`. -/
def Memory.writeRun : Memory → Nat → List Word → Memory
  | m, _, [] => m
  | m, a, w :: ws => Memory.writeRun (Memory.write m a w) (a + 1) ws

/-- MemRead (R13) as draw number `draw` sees it: the word written last, or the unspecified word of this draw where
nothing has been written (R40). -/
def Memory.word (m : Memory) (src : Source) (draw a : Nat) : Word :=
  (m.read? a).getD (Config.unspecified src draw a)

/-- The ranged read of R13: `count` words from address `a`. -/
def Memory.run (m : Memory) (src : Source) (draw a count : Nat) : Vector Word count :=
  Vector.ofFn fun k => m.word src draw (a + k)

/-- The words of the memory from address 0 have all been written, and are those of `x`. -/
abbrev Memory.holds {count : Nat} (m : Memory) (x : Vector Word count) : Prop :=
  ∀ k (h : k < count), m.read? k = some x[k]

/-! ### Registers, draws and the sequencer -/

/-- One draw of unspecified values has been made. -/
def State.drawn (s : State) : State := s.setDraws (s.draws + 1)

/-- `SEQ.MS <- label`: the next micro-step (R35, R183). -/
def State.goto (s : State) (label : MicroLabel) : State := s.setSeq { s.seq with ms := label }

/-- `C <- v` (R35). -/
def State.setC (s : State) (v : Nat) : State := s.setSeq { s.seq with c := v }

/-- `D <- v` (R35). -/
def State.setD (s : State) (v : Nat) : State := s.setSeq { s.seq with d := v }

/-- `I <- v` (R35). -/
def State.setI (s : State) (v : Nat) : State := s.setSeq { s.seq with i := v }

/-- `PASS <- p` (R35). -/
def State.setPass (s : State) (p : Pass) : State := s.setSeq { s.seq with pass := p }

/-! ### The engine's bounded accesses (R63) -/

/-- The engine reads `count` words of BLK from word address `a` and goes on with them. -/
def withBlkRun (s : State) (a count : Nat) (k : Vector Word count → State → Result) : Result :=
  if a + count ≤ s.params.blkWords then k (s.blk.run .blk s.draws a count) s.drawn else .fault .blkRange

/-- The engine reads the first word of the last chunk of BLK (R170) and goes on with it. A block of no words has no
last chunk. -/
def withBlkLastWord (s : State) (k : Word → State → Result) : Result :=
  if 1 ≤ s.rNat ∧ lastChunkAddr s.rNat < s.params.blkWords then
    k (s.blk.word .blk s.draws (lastChunkAddr s.rNat)) s.drawn
  else .fault .blkRange

/-- The engine writes words to BLK from word 0. -/
def writeBlk {count : Nat} (s : State) (ws : Vector Word count) : Result :=
  if count ≤ s.params.blkWords then .next (s.setBlk (s.blk.writeRun 0 ws.toList)) else .fault .blkRange

/-- The engine reads `count` words of Y from word 0 and goes on with them. -/
def withYRun (s : State) (count : Nat) (k : Vector Word count → State → Result) : Result :=
  if count ≤ s.params.blkWords then k (s.y.run .y s.draws 0 count) s.drawn else .fault .yRange

/-- The engine writes words to Y from word address `a`. -/
def writeY {count : Nat} (s : State) (a : Nat) (ws : Vector Word count) : Result :=
  if a + count ≤ s.params.blkWords then .next (s.setY (s.y.writeRun a ws.toList)) else .fault .yRange

/-- The engine reads `count` words of V from word address `a` and goes on with them. -/
def withVRun (s : State) (a count : Nat) (k : Vector Word count → State → Result) : Result :=
  if a + count ≤ s.params.vWords then k (s.v.run .v s.draws a count) s.drawn else .fault .vRange

/-- The engine writes words to V from word address `a`. -/
def writeV {count : Nat} (s : State) (a : Nat) (ws : Vector Word count) : Result :=
  if a + count ≤ s.params.vWords then .next (s.setV (s.v.writeRun a ws.toList)) else .fault .vRange

/-- Go on from a next state; a stop stays a stop. -/
def andThen (x : Result) (k : State → Result) : Result :=
  match x with
  | .next s => k s
  | .fault f => .fault f
  | .refused q => .refused q

/-! ### The exception mechanism -/

/-- Rejection entry, the whole of it (R228): `ERR <- code; DONE <- 0`, BUSY stays 0 and nothing else changes. Nothing
is saved and control goes nowhere; there is no return operation, because nothing was entered (R229): the next issue
overwrites ERR with its own verdict. -/
def reject (v : Verdict) (s : State) : State := s.setStatus (.rejected (verdictCode v))

/-- Acceptance (R205): BUSY <- 1, DONE <- 0, ERR <- 0, and SEQ is at the command's first micro-step. -/
def accept (i : Instr) (s : State) : State :=
  (s.setStatus .running).setSeq { s.seq with op := opOf i, ms := firstLabel i }

/-- Command issue while idle (R205), as one atomic step: the verdict, then rejection or acceptance. -/
def issueIdle (w : Word) (s : State) : State :=
  match decode w with
  | .error _ => reject .illCmd s
  | .ok i =>
    match checkInstr i s.rNat s.nNat s.params with
    | .accepted => accept i s
    | v => reject v s

end Sys2Proof.Machine
end

