-- ==== Sys2Proof/Machine/SalsaCore.lean ====
section
/-! DEFINITION. The Salsa20/8 engine (40_salsa20_8.md): the word operations, the quarter-round, the column and row
rounds, the doubleround, the function Salsa8, and the micro-steps S_LOAD, S_DR, S_FF, K_LOADX and K_STOREX. -/

namespace Sys2Proof.Machine

/-! ### Word operations -/

/-- R120: addition modulo 2^32. -/
def addW (a b : Word) : Word := a + b

/-- R121: bitwise exclusive or. -/
def xorW (a b : Word) : Word := a ^^^ b

/-- R122: rotate left by `c`. -/
def rotl (a : Word) (c : Nat) : Word := a.rotateLeft c

/-- Word-wise exclusive or of two banks (R152) or of two blocks (R178, R181): two runs of equally many words. -/
def xorRun {count : Nat} (x y : Vector Word count) : Vector Word count := Vector.ofFn fun k => xorW x[k] y[k]

/-- Word-wise addition of two banks; no carry passes from one word to the next (R130). -/
def addBank (x y : Bank) : Bank := Vector.ofFn fun k => addW x[k] y[k]

/-! ### Rounds -/

/-- R123: the quarter-round on the words of the working state named by `a b c d`; each of the four statements sees the
result of those before it. -/
def quarterRound (a b c d : Fin 16) (x : Bank) : Bank :=
  let x := x.set b (xorW x[b] (rotl (addW x[a] x[d]) 7))
  let x := x.set c (xorW x[c] (rotl (addW x[b] x[a]) 9))
  let x := x.set d (xorW x[d] (rotl (addW x[c] x[b]) 13))
  x.set a (xorW x[a] (rotl (addW x[d] x[c]) 18))

/-- The quarter-rounds over a list of index tuples, in order. -/
def quarterRounds (tuples : List (Fin 16 × Fin 16 × Fin 16 × Fin 16)) (x : Bank) : Bank :=
  tuples.foldl (fun x (a, b, c, d) => quarterRound a b c d x) x

/-- R124: the column index set. -/
def columnSet : List (Fin 16 × Fin 16 × Fin 16 × Fin 16) :=
  [(0, 4, 8, 12), (5, 9, 13, 1), (10, 14, 2, 6), (15, 3, 7, 11)]

/-- R125: the row index set. -/
def rowSet : List (Fin 16 × Fin 16 × Fin 16 × Fin 16) :=
  [(0, 1, 2, 3), (5, 6, 7, 4), (10, 11, 8, 9), (15, 12, 13, 14)]

/-- R124: the column round. -/
def columnRound (x : Bank) : Bank := quarterRounds columnSet x

/-- R125: the row round. -/
def rowRound (x : Bank) : Bank := quarterRounds rowSet x

/-- R126: a doubleround is a column round followed by a row round. -/
def doubleRound (x : Bank) : Bank := rowRound (columnRound x)

/-- R131: four doublerounds, then the feed-forward. -/
def salsa8 (x : Bank) : Bank := addBank x (doubleRound (doubleRound (doubleRound (doubleRound x))))

/-! ### Micro-steps -/

/-- R128, S_LOAD: `IN <- XS; B <- XS; D <- 0`. -/
def sLoad (s : State) : Result := .next ((((s.setInB s.xs).setB s.xs).setD 0).goto .sDr)

/-- R129, S_DR: `B <- DR(B); D <- D + 1`, four times in all. -/
def sDr (s : State) : Result :=
  if s.seq.d + 1 < 4 then .next (((s.setB (doubleRound s.b)).setD (s.seq.d + 1)).goto .sDr)
  else if s.seq.d + 1 = 4 then .next (((s.setB (doubleRound s.b)).setD (s.seq.d + 1)).goto .sFf)
  else .fault .sequence

/-- R130, S_FF: `XS[k] <- IN[k] + B[k]`. -/
def sFf (s : State) : Result :=
  match s.seq.op with
  | .salsa => .next ((s.setXs (addBank s.inB s.b)).goto .kStoreX)
  | .bmix => .next ((s.setXs (addBank s.inB s.b)).goto .mStore)
  | .romix => .next ((s.setXs (addBank s.inB s.b)).goto .mStore)
  | .intfy => .fault .sequence
  | .none => .fault .sequence

/-- R133, K_LOADX: `XS[0..15] <- BLK[k]`. -/
def kLoadX (s : State) : Result := withBlkRun s 0 16 fun x s => .next ((s.setXs x).goto .sLoad)

/-- R134, K_STOREX: `BLK[0..15] <- XS[k]`. -/
def kStoreX (s : State) : Result := andThen (writeBlk s s.xs) fun s => .next (s.goto .finish)

end Sys2Proof.Machine
end

