-- ==== Sys2Proof/Machine/BlockMix.lean ====
section
/-! DEFINITION. The BlockMix mixer (41_blockmix.md): blocks, the function BlockMix, and the micro-steps M_INIT, M_XOR,
M_STORE and M_COMMIT. -/

namespace Sys2Proof.Machine

/-! ### The function -/

/-- A block of `32·r` words (R150). A block of another length cannot be written down, so none is ever truncated or padded
(R161, R233). -/
abbrev Block (r : Nat) := Vector Word (32 * r)

/-- Chunk `i` of a block, its words `16·i` to `16·i + 15` (R150). -/
def chunkOf {r : Nat} (b : Block r) (i : Nat) (h : i < 2 * r) : Bank :=
  Vector.ofFn fun k => b[chunkAddr i + k]'(by unfold chunkAddr; omega)

/-- R157: the running state `x_i` after iteration `i`. Before iteration 0 it is the last chunk. -/
def mixState {r : Nat} (b : Block r) : (i : Nat) → i < 2 * r → Bank
  | 0, h => salsa8 (xorRun (chunkOf b (2 * r - 1) (by omega)) (chunkOf b 0 h))
  | i + 1, h => salsa8 (xorRun (mixState b i (by omega)) (chunkOf b (i + 1) h))

/-- R157: BlockMix, whose output is the chunk sequence `x_0, x_2, ..., x_{2r-2}, x_1, x_3, ..., x_{2r-1}`. -/
def blockMix {r : Nat} (b : Block r) : Block r :=
  Vector.ofFn fun k =>
    (mixState b (dstInverse (k / 16) r) (by unfold dstInverse; split <;> omega))[k.val % 16]'(by omega)

/-! ### Micro-steps -/

/-- R151, M_INIT: `XS <- last chunk of BLK; C <- 0`. A block of no words has no last chunk. -/
def mInit (s : State) : Result :=
  if s.rNat = 0 then .fault .blkRange
  else withBlkRun s (lastChunkAddr s.rNat) 16 fun x s => .next (((s.setXs x).setC 0).goto .mXor)

/-- R152, M_XOR: `XS[k] <- XS[k] ^ BLK[16·C + k]`. -/
def mXor (s : State) : Result :=
  withBlkRun s (chunkAddr s.seq.c) 16 fun x s => .next ((s.setXs (xorRun s.xs x)).goto .sLoad)

/-- R155, M_STORE: `Y[16·dst(C, r) + k] <- XS[k]; C <- C + 1`. -/
def mStore (s : State) : Result :=
  andThen (writeY s (chunkAddr (dst s.seq.c s.rNat)) s.xs) fun t =>
    if s.seq.c + 1 < 2 * s.rNat then .next ((t.setC (s.seq.c + 1)).goto .mXor)
    else if s.seq.c + 1 = 2 * s.rNat then .next ((t.setC (s.seq.c + 1)).goto .mCommit)
    else .fault .sequence

/-- R156, M_COMMIT: `BLK[0 .. 32·r - 1] <- Y[k]`. -/
def mCommit (s : State) : Result :=
  withYRun s (extent s.rNat) fun ws s =>
    andThen (writeBlk s ws) fun t =>
      match s.seq.op with
      | .bmix => .next (t.goto .finish)
      | .romix => .next (t.goto .qNext)
      | .salsa => .fault .sequence
      | .intfy => .fault .sequence
      | .none => .fault .sequence

end Sys2Proof.Machine
end

