-- ==== Sys2Proof/Machine/RoMix.lean ====
section
/-! DEFINITION. The ROMix sequencer's own part (42_romix.md): Integerify, the index reduction, the function ROMix, and
the micro-steps F_IFY, Q_INIT, Q_SNAP, Q_NEXT, Q_IDX, Q_XOR and FINISH. -/

namespace Sys2Proof.Machine

/-! ### The functions -/

/-- R170: word 0 of the last chunk of a block with `r >= 1`. -/
def integerify {r : Nat} (hr : 1 ≤ r) (b : Block r) : Word :=
  b[lastChunkAddr r]'(by unfold lastChunkAddr; omega)

/-- R172: the table index, the true remainder of the extracted word modulo `n >= 1`. -/
def tableIndex (w : Word) (n : Nat) : Nat := w.toNat % n

/-- R172: the index is below `n`, so it names a slot of the table. -/
theorem tableIndex_lt (w : Word) {n : Nat} (hn : 1 ≤ n) : tableIndex w n < n := Nat.mod_lt _ hn

/-- R181, the fill pass: the snapshots `v_0, ..., v_{n-1}` and the block after `n` steps. -/
def fillPass {r : Nat} : (n : Nat) → Block r → Vector (Block r) n × Block r
  | 0, b => (#v[], b)
  | n + 1, b =>
    let (vs, x) := fillPass n b
    (vs.push x, blockMix x)

/-- R181, one mix step on a table of `n >= 1` slots: XOR of the slot that the block itself selects, then BlockMix. -/
def mixStep {r n : Nat} (hr : 1 ≤ r) (hn : 1 ≤ n) (vs : Vector (Block r) n) (x : Block r) : Block r :=
  blockMix (xorRun x (vs[tableIndex (integerify hr x) n]'(tableIndex_lt _ hn)))

/-- R181, the mix pass: `count` mix steps. -/
def mixPass {r n : Nat} (hr : 1 ≤ r) (hn : 1 ≤ n) (vs : Vector (Block r) n) : Nat → Block r → Block r
  | 0, x => x
  | count + 1, x => mixPass hr hn vs count (mixStep hr hn vs x)

/-- R181: ROMix of a block of `32·r` words, with `r >= 1` and `n >= 1`. -/
def roMix {r n : Nat} (hr : 1 ≤ r) (hn : 1 ≤ n) (b : Block r) : Block r :=
  mixPass hr hn (fillPass n b).1 n (fillPass n b).2

/-- The block that the last Q_IDX of a ROMIX reads (R182): the block after all mix steps but the last. -/
def lastMixBlock {r n : Nat} (hr : 1 ≤ r) (hn : 1 ≤ n) (b : Block r) : Block r :=
  mixPass hr hn (fillPass n b).1 (n - 1) (fillPass n b).2

/-! ### Micro-steps -/

/-- R171, F_IFY: `IFY <- BLK[32·r - 16]`, the raw word. -/
def fIfy (s : State) : Result := withBlkLastWord s fun w s => .next ((s.setIfy w).goto .finish)

/-- R173, Q_INIT: `PASS <- FILL; I <- 0`. -/
def qInit (s : State) : Result := .next (((s.setPass .fill).setI 0).goto .qSnap)

/-- R174, Q_SNAP: `V[I·32·r + k] <- BLK[k]`. -/
def qSnap (s : State) : Result :=
  withBlkRun s 0 (extent s.rNat) fun ws s =>
    andThen (writeV s (slotAddr s.seq.i s.rNat) ws) fun s => .next (s.goto .mInit)

/-- R176, Q_NEXT: `I <- I + 1`, then the next step of the pass, the pass switch, or the end. -/
def qNext (s : State) : Result :=
  match s.seq.pass with
  | .fill =>
    if s.seq.i + 1 < s.nNat then .next ((s.setI (s.seq.i + 1)).goto .qSnap)
    else if s.seq.i + 1 = s.nNat then .next (((s.setPass .mix).setI 0).goto .qIdx)
    else .fault .sequence
  | .mix =>
    if s.seq.i + 1 < s.nNat then .next ((s.setI (s.seq.i + 1)).goto .qIdx)
    else if s.seq.i + 1 = s.nNat then .next ((s.setI (s.seq.i + 1)).goto .finish)
    else .fault .sequence

/-- R177, Q_IDX: `IFY <- BLK[32·r - 16]; J <- IFY mod n`. -/
def qIdx (s : State) : Result :=
  if s.nNat = 0 then .fault .zeroModulus
  else withBlkLastWord s fun w s =>
    .next (((s.setIfy w).setJ (BitVec.ofNat 32 (tableIndex w s.nNat))).goto .qXor)

/-- R178, Q_XOR: `BLK[k] <- BLK[k] ^ V[J·32·r + k]`. -/
def qXor (s : State) : Result :=
  withBlkRun s 0 (extent s.rNat) fun x t =>
    withVRun t (slotAddr s.j.toNat s.rNat) (extent s.rNat) fun y t =>
      andThen (writeBlk t (xorRun x y)) fun t => .next (t.goto .mInit)

/-- R180, FINISH: `OP <- NONE; MS <- IDLE; BUSY <- 0; DONE <- 1`. -/
def finishStep (s : State) : Result :=
  .next ((s.setSeq { s.seq with op := .none, ms := .idle }).setStatus s.status.finished)

end Sys2Proof.Machine
end

