-- ==== Sys2Proof/Machine/Sequencer.lean ====
section
/-! DEFINITION. The sequencer (R183): one micro-step, and a number of them. -/

namespace Sys2Proof.Machine

/-- R183: the micro-step that SEQ.MS names. In IDLE the engine waits for a command and does nothing. -/
def microStep (s : State) : Result :=
  match s.seq.ms with
  | .idle => .next s
  | .kLoadX => kLoadX s
  | .kStoreX => kStoreX s
  | .sLoad => sLoad s
  | .sDr => sDr s
  | .sFf => sFf s
  | .mInit => mInit s
  | .mXor => mXor s
  | .mStore => mStore s
  | .mCommit => mCommit s
  | .fIfy => fIfy s
  | .qInit => qInit s
  | .qSnap => qSnap s
  | .qNext => qNext s
  | .qIdx => qIdx s
  | .qXor => qXor s
  | .finish => finishStep s

/-- `count` micro-steps, one after another (R68). -/
def microSteps : Nat → State → Result
  | 0, s => .next s
  | count + 1, s => andThen (microStep s) (microSteps count)

/-- A command taken as one transition (R69, R184), command `i` having been written to CMD: ignored while BUSY (R206);
else rejected (R228), or accepted (R205) and run by its `count` micro-steps. -/
def commandAtomic (i : Instr) (count : Nat) (s : State) : Result :=
  if s.status.busy then .next s
  else
    match checkInstr i s.rNat s.nNat s.params with
    | .accepted => microSteps count (accept i s)
    | v => .next (reject v s)

end Sys2Proof.Machine
end

