-- ==== Sys2Proof/Machine/Commands.lean ====
section
/-! DEFINITION. The meaning of each command as one transition from the state at issue to the state at completion (R69,
R184; log 6): its checks at issue (R227), then its micro-steps (R183), whose number R185 gives. -/

namespace Sys2Proof.Machine

/-- R132, SALSA: K_LOADX, S_LOAD, S_DR four times, S_FF, K_STOREX, FINISH. -/
def execSalsa (s : State) : Result := commandAtomic .salsa (microStepCount .salsa s.rNat s.nNat) s

/-- R158, BMIX: M_INIT; M_XOR, S_LOAD, S_DR four times, S_FF, M_STORE for each of the `2r` chunks; M_COMMIT; FINISH. -/
def execBmix (s : State) : Result := commandAtomic .bmix (microStepCount .bmix s.rNat s.nNat) s

/-- R171, INTFY: F_IFY, FINISH. -/
def execIntfy (s : State) : Result := commandAtomic .intfy (microStepCount .intfy s.rNat s.nNat) s

/-- R182, ROMIX: Q_INIT; `n` fill steps of Q_SNAP, BlockMix, Q_NEXT; `n` mix steps of Q_IDX, Q_XOR, BlockMix, Q_NEXT;
FINISH. -/
def execRomix (s : State) : Result := commandAtomic .romix (microStepCount .romix s.rNat s.nNat) s

end Sys2Proof.Machine
end

