-- ==== Sys2Proof/Machine/Dispatch.lean ====
section
/-! DEFINITION. One arm for each command: its meaning. -/

namespace Sys2Proof.Machine

def exec (i : Instr) (s : State) : Host.Outcome State Fault Refusal :=
  match i with
  | .salsa => Sys2Proof.Machine.execSalsa s
  | .bmix => Sys2Proof.Machine.execBmix s
  | .intfy => Sys2Proof.Machine.execIntfy s
  | .romix => Sys2Proof.Machine.execRomix s

end Sys2Proof.Machine
end

