-- ==== Sys2Proof/Machine/HostAccess.lean ====
section
/-! DEFINITION. The host's moves (43_host_access.md): the four accesses, command issue, the poll of STATUS, and the
Reset event (R250). A host access is never an exception (R230). -/

namespace Sys2Proof.Machine

/-- The word is what the host read returns. -/
def answer (w : Word) (s : State) : State := s.setReply (some w)

/-- The host read returns an unspecified word: a fresh draw (R40, R206). -/
def answerUnspecified (src : Source) (index : Nat) (s : State) : State :=
  (answer (Config.unspecified src s.draws index) s).drawn

/-- R201, RCSR: STATUS is always readable; while BUSY any other index returns an unspecified word; CMD and every
reserved index read 0 (log 10, log 11). -/
def readCsr (index : Nat) (s : State) : State :=
  match csrOfIndex index with
  | some .status => answer s.status.word s
  | reg =>
    if s.status.busy then answerUnspecified .busCsr index s
    else
      match reg with
      | some .r => answer s.r s
      | some .n => answer s.n s
      | some .ify => answer s.ify s
      | some .j => answer s.j s
      | _ => answer 0 s

/-- R202, WCSR: ignored while BUSY; a write to CMD issues the word as a command; R and N take any value; every other
index ignores the write. -/
def writeCsr (index : Nat) (value : Word) (s : State) : State :=
  if s.status.busy then s
  else
    match csrOfIndex index with
    | some .cmd => issueIdle value s
    | some .r => s.setR value
    | some .n => s.setN value
    | _ => s

/-- R203, RBLK: unspecified while BUSY (log 11); 0 outside BLK (R63; log 10); an unspecified word where nothing has been written since
reset (R40). -/
def readBlk (a : Nat) (s : State) : State :=
  if s.status.busy then answerUnspecified .busBlk a s
  else if a ≥ s.params.blkWords then answer 0 s
  else
    match s.blk.read? a with
    | some w => answer w s
    | none => answerUnspecified .blk a s

/-- R204, WBLK: ignored while BUSY and outside BLK (R63). -/
def storeBlk (a : Nat) (value : Word) (s : State) : State :=
  if s.status.busy then s
  else if a ≥ s.params.blkWords then s
  else s.setBlk (s.blk.write a value)

/-- R200: one host access. -/
def hostAccess (a : Access) (s : State) : State :=
  match a with
  | .rcsr index => readCsr index s
  | .wcsr index value => writeCsr index value s
  | .rblk addr => readBlk addr s
  | .wblk addr value => storeBlk addr value s

/-- R250, R252: the Reset event, idle or busy. The running command is abandoned and every element is at its reset value;
the capacities, the moves still to come and what the host has read are not the engine's (log 5). -/
def resetEvent (s : State) : State := .afterReset s.params s.draws s.agenda s.reply

/-- One turn of the host's `wait` (R97): while the STATUS just read says BUSY the engine takes a micro-step and the poll
comes again; else the value read is the result (DESIGN CHOICE, log 12). -/
def pollStep (s : State) : Result :=
  if s.status.busy then microStep (s.setAgenda (.wait :: s.agenda)) else .next (readCsr 1 s)

end Sys2Proof.Machine
end

