-- ==== Sys2Proof/Machine/Script.lean ====
section
/-! DEFINITION. Host scripts: the expansion of the statements of R96 and R97 into moves, and the little-endian packing
of bytes into words that `ldb` and the surrounding software use (R61, R208). -/

namespace Sys2Proof.Machine

/-- R61: the word whose bytes, least significant first, are `b0 b1 b2 b3`. -/
def packWord (b0 b1 b2 b3 : Byte) : Word := b3 ++ b2 ++ b1 ++ b0

/-- R61: byte `m` of a word, bits `8m + 7` to `8m`. -/
def byteOf (w : Word) (m : Nat) : Byte := w.extractLsb' (8 * m) 8

/-- R61: the words that a byte sequence of whole words stands for. Bytes after the last whole word stand for none. -/
def packBytes : List Byte → List Word
  | b0 :: b1 :: b2 :: b3 :: rest => packWord b0 b1 b2 b3 :: packBytes rest
  | _ => []

/-- R61: the byte sequence of a list of words. -/
def unpackWords : List Word → List Byte
  | [] => []
  | w :: rest => byteOf w 0 :: byteOf w 1 :: byteOf w 2 :: byteOf w 3 :: unpackWords rest

/-- The index that the `<csr>` of a statement stands for (R21; log 15). -/
def refIndex : CsrRef → Nat
  | .named c => csrIndex c
  | .index i => i

/-- R97 `ldw`: one WBLK for each word, at consecutive addresses. -/
def loadWords : Nat → List Word → List Event
  | _, [] => []
  | a, w :: rest => .host (.wblk a w) :: loadWords (a + 1) rest

/-- R97 `cmd`: a write of the command's word to CMD. -/
def issueEvent (i : Instr) : Event := .host (.wcsr (csrIndex .cmd) (encode i))

/-- R96, R97: the moves a script statement stands for. `expect` is the read whose value it makes a claim about. -/
def expand : Stmt → List Event
  | .wcsr c value => [.host (.wcsr (refIndex c) value)]
  | .rcsr c => [.host (.rcsr (refIndex c))]
  | .wblk addr value => [.host (.wblk addr value)]
  | .rblk addr => [.host (.rblk addr)]
  | .cmd i => [issueEvent i]
  | .wait => [.wait]
  | .run i => [issueEvent i, .wait]
  | .ldw addr words => loadWords addr words
  | .ldb addr bytes => loadWords addr (packBytes bytes)
  | .expect (.csr c) _ => [.host (.rcsr (refIndex c))]
  | .expect (.blk addr) _ => [.host (.rblk addr)]

/-- The moves of a whole script, in order (R96). -/
def expandScript (script : List Stmt) : List Event := (script.map expand).flatten

/-- R97: what a statement claims of the state its moves lead to: for `expect`, that the value read is the one given. -/
def claimHolds (st : Stmt) (s : State) : Bool :=
  match st with
  | .expect _ value => s.reply == some value
  | _ => true

end Sys2Proof.Machine
end

