-- ==== Sys2Proof/Machine/Moves.lean ====
section
/-! DEFINITION. What one move of the agenda does. The command word is the data of the move itself; nothing is fetched
from memory (R71). -/

namespace Sys2Proof.Machine

/-- A word written to CMD, taken as one transition with the command it names (R69, R184). A word that names none is
ignored while BUSY (R206) and else rejected (R92, R226). -/
def commandMove (w : Word) (s : State) : Result :=
  match decode w with
  | .ok i => exec i s
  | .error _ => .next (if s.status.busy then s else reject .illCmd s)

/-- One move, already taken off the agenda. -/
def move (e : Event) (s : State) : Result :=
  match e with
  | .host a => .next (hostAccess a s)
  | .engine => microStep s
  | .command w => commandMove w s
  | .wait => pollStep s
  | .reset => .next (resetEvent s)

/-- The next move: the first of the agenda; with no move pending the engine goes on with the command it runs, if any
(R261: a busy engine eventually steps; DESIGN CHOICE, log 16). -/
def nextMove (s : State) : Result :=
  match s.agenda with
  | [] => microStep s
  | e :: rest => move e (s.setAgenda rest)

/-- The command word is the next move. -/
def placeCommand (w : Word) (s : State) : State := s.setAgenda (.command w :: s.agenda)

end Sys2Proof.Machine
end

