-- ==== Sys2Proof/Machine/Step.lean ====
section
/-! DEFINITION. One step of the machine, a run of steps, and the placing of a command word as its next move. -/

namespace Sys2Proof.Machine

/-- One step: the next move of the host, of the engine, or reset (R231). -/
def step (s : State) : Host.Outcome State Fault Refusal := nextMove s

/-- `count` steps, one after another: `Host.Core.run` of this machine. -/
def steps : Nat → State → Result
  | 0, s => .next s
  | count + 1, s => andThen (step s) (steps count)

/-- The command word made of the low `nbits` bits of `w` stands as the next move (log 3). -/
def State.withFetchWord (s : State) (nbits w : Nat) : State := placeCommand (fetchedWord nbits w) s

end Sys2Proof.Machine
end

