-- ==== Sys2Proof/Safety.lean ====
section
/-! DEFINITION. What a legal state is and what a safe run is, in the terms the claims use: the forms of STATUS (R23), the
sequencer positions that R183 allows, the bounds of the memories (R60), the words of V and Y that a running
command finds written (R72, R160, R187), and the moves of a host that keeps to the protocol (R207). -/

namespace Sys2Proof.Machine

/-! ### STATUS -/

/-- R23: at any time STATUS is one of these four: nothing issued since reset, running, completed, or rejected with a
code in 1 to 5. -/
def Status.legal (st : Status) : Prop :=
  st = .initial ∨ st = .running ∨ st = ⟨false, true, 0⟩ ∨
    (st = .rejected st.err ∧ 1 ≤ st.err.toNat ∧ st.err.toNat ≤ 5)

/-! ### SEQ -/

/-- The labels of a Salsa20/8 evaluation, with the doubleround counter each allows (R128 to R130). -/
def inEvaluation (q : SeqPos) : Prop :=
  q.ms = .sLoad ∨ (q.ms = .sDr ∧ q.d < 4) ∨ (q.ms = .sFf ∧ q.d = 4)

/-- The labels of a BlockMix of `2r` chunks, with the chunk counter each allows (R151 to R156). -/
def inBlockMix (q : SeqPos) (r : Nat) : Prop :=
  q.ms = .mInit ∨ ((q.ms = .mXor ∨ inEvaluation q ∨ q.ms = .mStore) ∧ q.c < 2 * r) ∨ (q.ms = .mCommit ∧ q.c = 2 * r)

/-- R222, R224: `1 <= r <= R_MAX`. -/
def blockFits (r : Nat) (p : Params) : Prop := 1 ≤ r ∧ r ≤ p.rMax

/-- R223, R225: `n >= 1` and `n·32·r <= V_WORDS`. -/
def tableFits (r n : Nat) (p : Params) : Prop := 1 ≤ n ∧ n * 32 * r ≤ p.vWords

/-- The sequencer positions that an accepted command passes through (R183): the labels of the command in progress, the
counters in the range of each label, and parameters that the checks at issue let through. -/
def seqLegal (s : State) : Prop :=
  match s.seq.op with
  | .none => s.seq.ms = .idle
  | .salsa => s.seq.ms = .kLoadX ∨ inEvaluation s.seq ∨ s.seq.ms = .kStoreX ∨ s.seq.ms = .finish
  | .bmix => blockFits s.rNat s.params ∧ (inBlockMix s.seq s.rNat ∨ s.seq.ms = .finish)
  | .intfy => blockFits s.rNat s.params ∧ (s.seq.ms = .fIfy ∨ s.seq.ms = .finish)
  | .romix => blockFits s.rNat s.params ∧ tableFits s.rNat s.nNat s.params ∧
      (s.seq.ms = .qInit ∨ s.seq.ms = .finish ∨
        (s.seq.i < s.nNat ∧
          ((s.seq.ms = .qSnap ∧ s.seq.pass = .fill) ∨ inBlockMix s.seq s.rNat ∨ s.seq.ms = .qNext ∨
            (s.seq.ms = .qIdx ∧ s.seq.pass = .mix) ∨
            (s.seq.ms = .qXor ∧ s.seq.pass = .mix ∧ s.j.toNat < s.nNat))))

/-! ### The invariants -/

/-- The three memories keep their canonical form inside their spaces (R60). -/
def memoriesLegal (blk y v : Memory) (p : Params) : Prop :=
  blk.wf ∧ y.wf ∧ v.wf ∧ blk.within p.blkWords ∧ y.within p.blkWords ∧ v.within p.vWords

/-- A legal state: STATUS has one of its four forms and BUSY says whether a command is in progress (R23), SEQ is at a
position of R183, and the memories are inside their spaces. -/
def LegalState (s : State) : Prop :=
  s.status.legal ∧ (s.status.busy = true ↔ s.seq.op ≠ .none) ∧ seqLegal s ∧ memoriesLegal s.blk s.y s.v s.params

/-- The first `count` words of a memory have all been written. -/
def writtenUpTo (m : Memory) (count : Nat) : Prop := ∀ a < count, m.read? a ≠ none

/-- R72, R187: how many slots of V hold written words while a ROMIX runs: `I` before the snapshot of a fill step, `I + 1` after
it, and all `n` in the mix pass. -/
def slotsWritten (s : State) : Nat :=
  match s.seq.pass with
  | .fill => if s.seq.ms = .qSnap then s.seq.i else s.seq.i + 1
  | .mix => s.nNat

/-- R72, R187: while a ROMIX runs its two passes, the slots it has written so far hold words written since reset. -/
def tableWritten (s : State) : Prop :=
  s.seq.op = .romix → s.seq.ms ≠ .qInit → s.seq.ms ≠ .finish → writtenUpTo s.v (slotsWritten s * 32 * s.rNat)

/-- R160: the output chunks a running BlockMix has stored so far hold words written since reset. -/
def outputWritten (s : State) : Prop :=
  (s.seq.op = .bmix ∨ s.seq.op = .romix) →
    (s.seq.ms = .mXor ∨ s.seq.ms = .sLoad ∨ s.seq.ms = .sDr ∨ s.seq.ms = .sFf ∨ s.seq.ms = .mStore ∨
      s.seq.ms = .mCommit) →
      ∀ i < s.seq.c, ∀ k < 16, s.y.read? (chunkAddr (dst i s.rNat) + k) ≠ none

/-! ### Hosts -/

/-- R207: between the issue of a command and the read that finds BUSY = 0, the host reads STATUS and makes no other
access. -/
def keepsProtocol (s : State) : Access → Bool
  | .rcsr index => !s.status.busy || index == csrIndex .status
  | .wcsr _ _ => !s.status.busy
  | .rblk _ => !s.status.busy
  | .wblk _ _ => !s.status.busy

/-- A safe run of `count` steps: no step stops. -/
def runsSafely (count : Nat) (s : State) : Prop := ∃ t, steps count s = .next t

end Sys2Proof.Machine
end

