-- ==== Sys2Proof/Certificates/Slice0/Obligations.lean ====
section
/-! DEFINITION. The statements for the provers, each with the rule of spec/ it formalises. The names under
Sys2Proof.Claims are the shared clauses the statements are made of. -/

open Sys2Proof Sys2Proof.Machine

/-! ### Shared clauses -/

/-- The registers only the host writes, and the model's own fields that no command touches, are unchanged. -/
def Sys2Proof.Claims.hostFieldsKept (s t : State) : Prop :=
  t.r = s.r ∧ t.n = s.n ∧ t.params = s.params ∧ t.agenda = s.agenda ∧ t.reply = s.reply

/-- Every word of a memory outside the `count` words from address `a` reads as before. -/
def Sys2Proof.Claims.keptOutside (m m' : Memory) (a count : Nat) : Prop :=
  ∀ x, (x < a ∨ a + count ≤ x) → m'.read? x = m.read? x

/-- A command has completed (R180, R209): BUSY = 0, DONE = 1, ERR = 0, and the sequencer is idle. -/
def Sys2Proof.Claims.completed (t : State) : Prop :=
  t.status = ⟨false, true, 0⟩ ∧ t.seq.op = .none ∧ t.seq.ms = .idle

/-- What a later command or the host can see (R41): BLK, R, N, IFY, J and STATUS agree, and so do the model's
capacities and the number of the next draw. -/
def Sys2Proof.Claims.visibleAgree (s t : State) : Prop :=
  s.status = t.status ∧ s.r = t.r ∧ s.n = t.n ∧ s.ify = t.ify ∧ s.j = t.j ∧ s.blk = t.blk ∧ s.params = t.params ∧
    s.draws = t.draws

/-- The 32 statements `B[x] ^= R(B[p] + B[q], c)` of R126, as tuples `(x, p, q, c)` in their order. -/
def Sys2Proof.Claims.doubleRoundStatements : List (Fin 16 × Fin 16 × Fin 16 × Nat) :=
  [(4, 0, 12, 7), (8, 4, 0, 9), (12, 8, 4, 13), (0, 12, 8, 18),
   (9, 5, 1, 7), (13, 9, 5, 9), (1, 13, 9, 13), (5, 1, 13, 18),
   (14, 10, 6, 7), (2, 14, 10, 9), (6, 2, 14, 13), (10, 6, 2, 18),
   (3, 15, 11, 7), (7, 3, 15, 9), (11, 7, 3, 13), (15, 11, 7, 18)] ++
  [(1, 0, 3, 7), (2, 1, 0, 9), (3, 2, 1, 13), (0, 3, 2, 18),
   (6, 5, 4, 7), (7, 6, 5, 9), (4, 7, 6, 13), (5, 4, 7, 18),
   (11, 10, 9, 7), (8, 11, 10, 9), (9, 8, 11, 13), (10, 9, 8, 18),
   (12, 15, 14, 7), (13, 12, 15, 9), (14, 13, 12, 13), (15, 14, 13, 18)]

/-- One statement of R126. -/
def Sys2Proof.Claims.xorRotate (b : Bank) (p : Fin 16 × Fin 16 × Fin 16 × Nat) : Bank :=
  b.set p.1 (b[p.1] ^^^ rotl (b[p.2.1] + b[p.2.2.1]) p.2.2.2)

/-! The labels that a command passes through (R183), as the "Stepwise view" of each command's rule writes them. -/

/-- One Salsa20/8 evaluation (R131). -/
def Sys2Proof.Claims.evaluationLabels : List MicroLabel := [.sLoad, .sDr, .sDr, .sDr, .sDr, .sFf]

/-- One chunk of a BlockMix (R158). -/
def Sys2Proof.Claims.chunkLabels : List MicroLabel := .mXor :: Claims.evaluationLabels ++ [.mStore]

/-- A whole BlockMix of `2r` chunks (R158, R175). -/
def Sys2Proof.Claims.blockMixLabels (r : Nat) : List MicroLabel :=
  .mInit :: (List.replicate (2 * r) Claims.chunkLabels).flatten ++ [.mCommit]

/-- A whole command (R132, R158, R171, R182). -/
def Sys2Proof.Claims.labels (i : Instr) (r n : Nat) : List MicroLabel :=
  match i with
  | .salsa => .kLoadX :: Claims.evaluationLabels ++ [.kStoreX, .finish]
  | .bmix => Claims.blockMixLabels r ++ [.finish]
  | .intfy => [.fIfy, .finish]
  | .romix =>
    .qInit :: (List.replicate n (.qSnap :: Claims.blockMixLabels r ++ [.qNext])).flatten ++
      (List.replicate n (.qIdx :: .qXor :: Claims.blockMixLabels r ++ [.qNext])).flatten ++ [.finish]

/-- From `s` the engine, busy throughout, executes the micro-steps of the listed labels, in order, and is then in
`t`. -/
def Sys2Proof.Claims.runsThrough : List MicroLabel → State → State → Prop
  | [], s, t => s = t
  | l :: ls, s, t => s.seq.ms = l ∧ s.status.busy = true ∧ ∃ u, microStep s = .next u ∧ Claims.runsThrough ls u t

/-- From the issue of command `i` in state `s`, the engine passes through the command's micro-steps and is then in
`t`. -/
def Sys2Proof.Claims.carriesOut (i : Instr) (s t : State) : Prop :=
  Claims.runsThrough (Claims.labels i s.rNat s.nNat) (accept i s) t

/-! ### Encoding -/

/-- R91: each command has exactly one word, and a word decodes to a command only when it is that word. -/
def Obligations.DecodeIsInverseOfEncode : Prop :=
  ∀ (w : Word) (i : Instr), decode w = .ok i ↔ w = encode i

/-- R92: which words are illegal, by the field that makes them so: every word but the four of R91. Issuing one to
the idle engine rejects it with code 5 and changes no other state. -/
def Obligations.IllegalWordsAreNamed : Prop :=
  ∀ w : Word,
    (decode w = .error .zeroField ↔ w.toNat / 2 ^ 8 ≠ 0) ∧
    (decode w = .error .opcode ↔ w.toNat = 0 ∨ (5 ≤ w.toNat ∧ w.toNat ≤ 0xFF)) ∧
    (w ≠ 1 → w ≠ 2 → w ≠ 3 → w ≠ 4 → ∀ s : State, s.status.busy = false →
      hostAccess (.wcsr 0 w) s = { s with status := ⟨false, false, 5⟩ })

/-- R91: the decoder by fields is the decoder by mask and match values. -/
def Obligations.FieldDecoderIsTableDecoder : Prop :=
  ∀ w : Word, (decode w).toOption = tableDecode w

/-- R91, R92: a few words written out from the table of R91. -/
def Obligations.WrittenWordsDecode : Prop :=
  decode 0x00000001 = .ok .salsa ∧ decode 0x00000002 = .ok .bmix ∧ decode 0x00000003 = .ok .intfy ∧
    decode 0x00000004 = .ok .romix ∧ decode 0x00000000 = .error .opcode ∧ decode 0x00000005 = .error .opcode ∧
    decode 0x00000104 = .error .zeroField ∧ decode 0xFFFFFFFF = .error .zeroField

/-! ### The Salsa20/8 engine -/

/-- R120, R121: the sum modulo 2^32, and exclusive or bit by bit. -/
def Obligations.AddAndXorFormulas : Prop :=
  ∀ a b : Word, (addW a b).toNat = (a.toNat + b.toNat) % 2 ^ 32 ∧
    ∀ i, i < 32 → ((xorW a b).getLsbD i = true ↔ a.getLsbD i ≠ b.getLsbD i)

/-- R122: the arithmetic formula of the rotation, and where each bit goes, for every count from 1 to 31. -/
def Obligations.RotateLeftFormula : Prop :=
  ∀ (a : Word) (c : Nat), 1 ≤ c → c ≤ 31 →
    (rotl a c).toNat = (a.toNat * 2 ^ c) % 2 ^ 32 + a.toNat / 2 ^ (32 - c) ∧
    ∀ i, i < 32 → (rotl a c).getLsbD ((i + c) % 32) = a.getLsbD i

/-- R123: the four statements of a quarter-round, each seeing the results before it, and its frame. -/
def Obligations.QuarterRoundStatements : Prop :=
  ∀ (a b c d : Fin 16) (x : Bank), [a, b, c, d].Nodup →
    let y := quarterRound a b c d x
    y[b] = x[b] ^^^ rotl (x[a] + x[d]) 7 ∧
    y[c] = x[c] ^^^ rotl (y[b] + x[a]) 9 ∧
    y[d] = x[d] ^^^ rotl (y[c] + y[b]) 13 ∧
    y[a] = x[a] ^^^ rotl (y[d] + y[c]) 18 ∧
    ∀ k : Fin 16, k ∉ [a, b, c, d] → y[k] = x[k]

/-- R126: one doubleround is the 32 statements written out there, in their order. -/
def Obligations.DoubleRoundIsThirtyTwoStatements : Prop :=
  ∀ x : Bank, doubleRound x = Claims.doubleRoundStatements.foldl Claims.xorRotate x

/-- R127: inside one round the order of the four quarter-rounds does not change the result. -/
def Obligations.QuarterRoundOrderInsideRoundIrrelevant : Prop :=
  ∀ (x : Bank) (ts : List (Fin 16 × Fin 16 × Fin 16 × Fin 16)),
    (ts.Perm columnSet → quarterRounds ts x = columnRound x) ∧ (ts.Perm rowSet → quarterRounds ts x = rowRound x)

/-- R131, with R128 to R130: Salsa8 is the input plus the block after four doublerounds, word by word. From S_LOAD,
an evaluation takes S_LOAD, four S_DR and S_FF, and leaves Salsa8 of XS in XS; nothing but XS, IN, B and SEQ
changes. -/
def Obligations.EvaluationLeavesSalsa8InXs : Prop :=
  (∀ (x : Bank) (k : Fin 16), (salsa8 x)[k] = x[k] + (doubleRound^[4] x)[k]) ∧
  salsa8 (Vector.replicate 16 0) = Vector.replicate 16 0 ∧
  ∀ s : State, s.seq.ms = .sLoad → (s.seq.op = .salsa ∨ s.seq.op = .bmix ∨ s.seq.op = .romix) →
    ∃ t, microSteps 6 s = .next t ∧ t.xs = salsa8 s.xs ∧ t.inB = s.xs ∧
      t.seq.d = 4 ∧ t.seq.ms = (if s.seq.op = .salsa then .kStoreX else .mStore) ∧
      t.seq.op = s.seq.op ∧ t.seq.pass = s.seq.pass ∧ t.seq.i = s.seq.i ∧ t.seq.c = s.seq.c ∧
      t.status = s.status ∧ t.ify = s.ify ∧ t.j = s.j ∧ t.blk = s.blk ∧ t.y = s.y ∧ t.v = s.v ∧
      t.draws = s.draws ∧ Claims.hostFieldsKept s t

/-- R158, R186 (c): the all-zero block goes to the all-zero block under BlockMix and ROMix. -/
def Obligations.ZeroBlockIsFixedPoint : Prop :=
  ∀ r, blockMix (Vector.replicate (32 * r) 0 : Block r) = Vector.replicate (32 * r) 0 ∧
    ∀ n (hr : 1 ≤ r) (hn : 1 ≤ n), roMix hr hn (Vector.replicate (32 * r) 0) = Vector.replicate (32 * r) 0

/-! ### BlockMix and ROMix as functions -/

/-- R154: the destination function by its two cases, its word offset, and (R160) that it is a bijection of the chunk
indices. -/
def Obligations.ChunkDestinationIsBijection : Prop :=
  ∀ r i, i < 2 * r →
    (i % 2 = 0 → dst i r = i / 2 ∧ dst i r < r ∧ chunkAddr (dst i r) = 8 * i) ∧
    (i % 2 = 1 → dst i r = r + (i - 1) / 2 ∧ r ≤ dst i r ∧ dst i r < 2 * r ∧
      chunkAddr (dst i r) = 16 * r + 8 * (i - 1)) ∧
    (∀ j, j < 2 * r → dst j r = dst i r → j = i) ∧
    ∃ j, j < 2 * r ∧ dst j r = i

/-- R157, R159: the output of BlockMix has as many words as its input; chunk `dst(i, r)` of it is the running state
`x_i`, which is Salsa8 of the running state before it (the last chunk, for `i = 0`) XOR chunk `i` of the input; the
last chunk of the output is the last running state. -/
def Obligations.BlockMixChainsAndInterleaves : Prop :=
  ∀ (r : Nat) (b : Block r),
    (blockMix b).toList.length = 32 * r ∧
    (∀ i (h : i < 2 * r),
      ∃ (hd : dst i r < 2 * r) (hp : dst (i - 1) r < 2 * r),
        chunkOf (blockMix b) (dst i r) hd =
          salsa8 (xorRun
            (if i = 0 then chunkOf b (2 * r - 1) (by omega) else chunkOf (blockMix b) (dst (i - 1) r) hp)
            (chunkOf b i h))) ∧
    (1 ≤ r → dst (2 * r - 1) r = 2 * r - 1)

/-- R170, R172: Integerify is word `32r - 16` of the block. The index is the word modulo `n`, below `n`; the low `m`
bits when `n = 2^m`; the word itself when it is below `n`. -/
def Obligations.TableIndexIsTrueRemainder : Prop :=
  (∀ (r : Nat) (hr : 1 ≤ r) (b : Block r), integerify hr b = b[32 * r - 16]) ∧
  ∀ (w : Word) (n : Nat), 1 ≤ n →
    tableIndex w n < n ∧ (w.toNat < n → tableIndex w n = w.toNat) ∧
    (∃ q, w.toNat = q * n + tableIndex w n) ∧
    ∀ m, m ≤ 31 → n = 2 ^ m → tableIndex w n = (w.extractLsb' 0 m).toNat

/-- R181: ROMix applies BlockMix `n` times, then `n` times takes the block `z`, XORs into it the block after `j` of
the first `n` applications, where `j` is Integerify of `z` modulo `n`, and applies BlockMix. -/
def Obligations.RoMixIsFillThenMix : Prop :=
  ∀ (r n : Nat) (hr : 1 ≤ r) (hn : 1 ≤ n) (b : Block r),
    roMix hr hn b =
      (fun z => blockMix (xorRun z (blockMix^[(integerify hr z).toNat % n] b)))^[n] (blockMix^[n] b)

/-- R187: the fill pass takes exactly `n` snapshots, slot `i` being the block after `i` BlockMix applications, and
leaves the block after `n` of them. -/
def Obligations.FillPassSnapshotsTrajectory : Prop :=
  ∀ (r n : Nat) (b : Block r),
    (fillPass n b).1.toList.length = n ∧ (fillPass n b).2 = blockMix^[n] b ∧
    ∀ i (h : i < n), (fillPass n b).1[i] = blockMix^[i] b

/-! ### The commands -/

/-- R132: SALSA, issued while idle, is accepted whatever R and N hold, is busy from issue on, and completes after
K_LOADX, S_LOAD, S_DR four times, S_FF, K_STOREX and FINISH. BLK words 0 to 15 become Salsa8 of themselves (of a block
that has every word of them that has been written). Every other word of BLK, all of Y and V, and every register but
STATUS are unchanged. -/
def Obligations.SalsaCompletes : Prop :=
  ∀ s : State, s.status.busy = false →
    (accept .salsa s).status = ⟨true, false, 0⟩ ∧
    ∃ t, exec .salsa s = .next t ∧ Claims.carriesOut .salsa s t ∧ Claims.completed t ∧
      (∃ x : Bank, (∀ (k : Fin 16) (w : Word), s.blk.read? k = some w → x[k] = w) ∧
        t.blk.holds (salsa8 x)) ∧
      Claims.keptOutside s.blk t.blk 0 16 ∧ t.y = s.y ∧ t.v = s.v ∧ t.ify = s.ify ∧ t.j = s.j ∧
      Claims.hostFieldsKept s t

/-- R158, R209: BMIX, issued while idle, is rejected with code 1 when `R = 0` and with code 3 when `R > R_MAX`, and
nothing but STATUS changes. Otherwise it is busy from issue on and completes after M_INIT, the eight micro-steps of
each of the `2r` chunks, M_COMMIT and FINISH. The active extent of BLK, where all of it has been written, becomes
BlockMix of itself; the words of BLK and Y at and above `32r`, all of V, and every register but STATUS are
unchanged. -/
def Obligations.BmixCompletes : Prop :=
  ∀ s : State, s.status.busy = false →
    (s.rNat = 0 → exec .bmix s = .next { s with status := ⟨false, false, 1⟩ }) ∧
    (s.params.rMax < s.rNat → exec .bmix s = .next { s with status := ⟨false, false, 3⟩ }) ∧
    (1 ≤ s.rNat → s.rNat ≤ s.params.rMax →
      (accept .bmix s).status = ⟨true, false, 0⟩ ∧
      ∃ t, exec .bmix s = .next t ∧ Claims.carriesOut .bmix s t ∧ Claims.completed t ∧
        (∀ b : Block s.rNat, s.blk.holds b → t.blk.holds (blockMix b)) ∧
        Claims.keptOutside s.blk t.blk 0 (32 * s.rNat) ∧ Claims.keptOutside s.y t.y 0 (32 * s.rNat) ∧
        t.v = s.v ∧ t.ify = s.ify ∧ t.j = s.j ∧ Claims.hostFieldsKept s t)

/-- R171: INTFY, issued while idle, is rejected with code 1 when `R = 0` and with code 3 when `R > R_MAX`, and nothing
but STATUS changes. Otherwise it is busy from issue on and completes after F_IFY and FINISH. IFY takes the raw word
`BLK[32r - 16]`, where it has been written. Every memory and bank and every register but IFY and STATUS are unchanged.
-/
def Obligations.IntfyCompletes : Prop :=
  ∀ s : State, s.status.busy = false →
    (s.rNat = 0 → exec .intfy s = .next { s with status := ⟨false, false, 1⟩ }) ∧
    (s.params.rMax < s.rNat → exec .intfy s = .next { s with status := ⟨false, false, 3⟩ }) ∧
    (1 ≤ s.rNat → s.rNat ≤ s.params.rMax →
      (accept .intfy s).status = ⟨true, false, 0⟩ ∧
      ∃ t, exec .intfy s = .next t ∧ Claims.carriesOut .intfy s t ∧ Claims.completed t ∧
        (∀ w, s.blk.read? (32 * s.rNat - 16) = some w → t.ify = w) ∧
        t.blk = s.blk ∧ t.y = s.y ∧ t.v = s.v ∧ t.xs = s.xs ∧ t.inB = s.inB ∧ t.b = s.b ∧ t.j = s.j ∧
        Claims.hostFieldsKept s t)

/-- R182, R209: ROMIX, issued while idle, is rejected with the code of the first of these that holds, and nothing
but STATUS changes: 1 when `R = 0`, 2 when `N = 0`, 3 when `R > R_MAX`, 4 when `N·32·R > V_WORDS`. Otherwise it is
busy from issue on and completes after Q_INIT, `n` fill steps, `n` mix steps and FINISH. The active extent of BLK,
where all of it has been written, becomes ROMix of itself, IFY the word that the last Q_IDX reads, and J that word
modulo `n`; J is the remainder of IFY in every case. The words of BLK and Y at and above `32r`, the words of V at
and above `n·32r`, and every register but IFY, J and STATUS are unchanged. -/
def Obligations.RomixCompletes : Prop :=
  ∀ s : State, s.status.busy = false →
    (s.rNat = 0 → exec .romix s = .next { s with status := ⟨false, false, 1⟩ }) ∧
    (1 ≤ s.rNat → s.nNat = 0 → exec .romix s = .next { s with status := ⟨false, false, 2⟩ }) ∧
    (s.params.rMax < s.rNat → 1 ≤ s.nNat → exec .romix s = .next { s with status := ⟨false, false, 3⟩ }) ∧
    (1 ≤ s.rNat → s.rNat ≤ s.params.rMax → s.params.vWords < s.nNat * 32 * s.rNat →
      exec .romix s = .next { s with status := ⟨false, false, 4⟩ }) ∧
    (∀ (hr : 1 ≤ s.rNat) (hn : 1 ≤ s.nNat), s.rNat ≤ s.params.rMax → s.nNat * 32 * s.rNat ≤ s.params.vWords →
      (accept .romix s).status = ⟨true, false, 0⟩ ∧
      ∃ t, exec .romix s = .next t ∧ Claims.carriesOut .romix s t ∧
        Claims.completed t ∧
        (∀ b : Block s.rNat, s.blk.holds b →
          t.blk.holds (roMix hr hn b) ∧ t.ify = integerify hr (lastMixBlock hr hn b)) ∧
        t.j.toNat = t.ify.toNat % s.nNat ∧
        Claims.keptOutside s.blk t.blk 0 (32 * s.rNat) ∧ Claims.keptOutside s.y t.y 0 (32 * s.rNat) ∧
        Claims.keptOutside s.v t.v 0 (s.nNat * 32 * s.rNat) ∧ Claims.hostFieldsKept s t)

/-- R185: an accepted command passes through as many micro-steps as its row says, whatever the data, among them as
many Salsa8 evaluations (S_LOAD) and doublerounds (S_DR) as its row says, each doubleround being eight
quarter-rounds; it is busy until then and has completed after them. -/
def Obligations.MicroStepCountsAreExact : Prop :=
  columnSet.length + rowSet.length = 8 ∧
  ∀ (i : Instr) (s : State), s.status.busy = false → checkInstr i s.rNat s.nNat s.params = .accepted →
    (∃ t, Claims.carriesOut i s t ∧ exec i s = .next t ∧ Claims.completed t) ∧
    (Claims.labels i s.rNat s.nNat).length =
      (match i with | .salsa => 9 | .bmix => 16 * s.rNat + 3 | .intfy => 2 | .romix => s.nNat * (32 * s.rNat + 9) + 2) ∧
    (Claims.labels i s.rNat s.nNat).count .sLoad =
      (match i with | .salsa => 1 | .bmix => 2 * s.rNat | .intfy => 0 | .romix => 4 * s.nNat * s.rNat) ∧
    (Claims.labels i s.rNat s.nNat).count .sDr =
      (match i with | .salsa => 4 | .bmix => 8 * s.rNat | .intfy => 0 | .romix => 16 * s.nNat * s.rNat)

/-- R184: issuing an accepted command by a write to CMD and letting the engine take its micro-steps one by one leads
to the state the command leads to when it is taken as one transition. The agenda of moves (log 3) and a whole command
as one move of it (log 6) are the model's own. -/
def Obligations.StepwiseRunAgreesWithAtomicCommand : Prop :=
  ∀ (i : Instr) (s : State) (rest : List Event), s.status.busy = false →
    checkInstr i s.rNat s.nNat s.params = .accepted →
    steps (1 + microStepCount i s.rNat s.nNat)
        (s.setAgenda (.host (.wcsr 0 (encode i)) ::
          (List.replicate (microStepCount i s.rNat s.nNat) .engine ++ rest))) =
      step (s.setAgenda (.command (encode i) :: rest))

/-- R41: no command reads internal state left by an earlier one. From states that agree on what is visible, and may
differ in XS, IN, B, Y, V and SEQ, a command leads to states that agree on what is visible. The draws of unspecified
words are numbered alike in both (log 1). -/
def Obligations.HiddenStateNeverInfluencesCommands : Prop :=
  ∀ (i : Instr) (s s' t : State), Claims.visibleAgree s s' → exec i s = .next t →
    ∃ t', exec i s' = .next t' ∧ Claims.visibleAgree t t'

/-! ### Command issue and rejection -/

/-- R227: the verdict of an issue, each code by its condition, in the order of priority. -/
def Obligations.CheckReportsFirstCondition : Prop :=
  ∀ (w r n : Word) (p : Params),
    (verdictCode (check w r n p) = 5 ↔ ∀ i, decode w ≠ .ok i) ∧
    (verdictCode (check w r n p) = 1 ↔ ∃ i, decode w = .ok i ∧ i ≠ .salsa ∧ r = 0) ∧
    (verdictCode (check w r n p) = 2 ↔ decode w = .ok .romix ∧ r ≠ 0 ∧ n = 0) ∧
    (verdictCode (check w r n p) = 3 ↔
      ∃ i, decode w = .ok i ∧ i ≠ .salsa ∧ r ≠ 0 ∧ (i = .romix → n ≠ 0) ∧ p.rMax < r.toNat) ∧
    (verdictCode (check w r n p) = 4 ↔
      decode w = .ok .romix ∧ r ≠ 0 ∧ n ≠ 0 ∧ r.toNat ≤ p.rMax ∧ p.vWords < n.toNat * 32 * r.toNat) ∧
    (verdictCode (check w r n p) = 0 ↔
      ∃ i, decode w = .ok i ∧ (i ≠ .salsa → r ≠ 0 ∧ r.toNat ≤ p.rMax) ∧
        (i = .romix → n ≠ 0 ∧ n.toNat * 32 * r.toNat ≤ p.vWords))

/-- R205: a write to CMD while idle is one atomic step: DONE is cleared, ERR takes the verdict, and an accepted command
is at its first micro-step with BUSY = 1; a rejected one leaves BUSY = 0 and SEQ as it was. Nothing else changes. -/
def Obligations.CommandIssueIsOneAtomicStep : Prop :=
  ∀ (s : State) (w : Word), s.status.busy = false →
    ∃ t, hostAccess (.wcsr 0 w) s = t ∧ t.status.done = false ∧
      t.status.err = verdictCode (check w s.r s.n s.params) ∧
      (check w s.r s.n s.params = .accepted →
        t.status.busy = true ∧
        (decode w = .ok .salsa → t.seq = { s.seq with op := .salsa, ms := .kLoadX }) ∧
        (decode w = .ok .bmix → t.seq = { s.seq with op := .bmix, ms := .mInit }) ∧
        (decode w = .ok .intfy → t.seq = { s.seq with op := .intfy, ms := .fIfy }) ∧
        (decode w = .ok .romix → t.seq = { s.seq with op := .romix, ms := .qInit })) ∧
      (check w s.r s.n s.params ≠ .accepted → t.status.busy = false ∧ t.seq = s.seq) ∧
      t = { s with status := t.status, seq := t.seq }

/-- R228: a rejected command writes its code to ERR, clears DONE, leaves BUSY = 0, and changes nothing else; so does
an illegal word. -/
def Obligations.RejectionChangesOnlyStatus : Prop :=
  (∀ (i : Instr) (s : State), s.status.busy = false → checkInstr i s.rNat s.nNat s.params ≠ .accepted →
    exec i s = .next { s with status := ⟨false, false, verdictCode (checkInstr i s.rNat s.nNat s.params)⟩ }) ∧
  ∀ (w : Word) (s : State), s.status.busy = false → (∀ i, decode w ≠ .ok i) →
    commandMove w s = .next { s with status := ⟨false, false, 5⟩ }

/-! ### Host accesses -/

/-- R23: the word that a read of STATUS returns: BUSY in bit 0, DONE in bit 1, ERR in bits 7:4, and 0 elsewhere. -/
def Obligations.StatusWordLayout : Prop :=
  ∀ st : Status,
    st.word.toNat = (if st.busy then 1 else 0) + (if st.done then 2 else 0) + 16 * st.err.toNat

/-- R201: what a read of each CSR returns. STATUS always; while BUSY = 1 any other index some word; else 0 for CMD and
every reserved index, and the register for the others. No state of the engine changes: `reply`, the word read, and
`draws` are the model's own fields (log 1, log 4). -/
def Obligations.CsrReadsReturn : Prop :=
  ∀ (s : State) (i : Nat),
    hostAccess (.rcsr 1) s = { s with reply := some s.status.word } ∧
    (s.status.busy = true → i ≠ 1 → ∃ w d, hostAccess (.rcsr i) s = { s with reply := some w, draws := d }) ∧
    (s.status.busy = false →
      hostAccess (.rcsr 0) s = { s with reply := some 0 } ∧
      hostAccess (.rcsr 2) s = { s with reply := some s.r } ∧
      hostAccess (.rcsr 3) s = { s with reply := some s.n } ∧
      hostAccess (.rcsr 4) s = { s with reply := some s.ify } ∧
      hostAccess (.rcsr 5) s = { s with reply := some s.j } ∧
      (6 ≤ i → hostAccess (.rcsr i) s = { s with reply := some 0 }))

/-- R202: what a write of each CSR does. Nothing while BUSY = 1; else a write to CMD issues the word, R and N take
any value, and every other index ignores the write. -/
def Obligations.CsrWritesStore : Prop :=
  ∀ (s : State) (v : Word) (i : Nat),
    (s.status.busy = true → hostAccess (.wcsr i v) s = s) ∧
    (s.status.busy = false →
      hostAccess (.wcsr 0 v) s = issueIdle v s ∧
      hostAccess (.wcsr 2 v) s = { s with r := v } ∧
      hostAccess (.wcsr 3 v) s = { s with n := v } ∧
      (i = 1 ∨ 4 ≤ i → hostAccess (.wcsr i v) s = s))

/-- R203, R204: while BUSY = 1 a read of BLK returns some word, and a write is ignored. Else, inside BLK, a read returns
the word held (some word, where nothing has been written); a write is read back, and every other address reads as
before; outside BLK a read returns 0 and a write is ignored. Nothing else changes: `reply`, the word read, and `draws`
are the model's own fields (log 1, log 4). -/
def Obligations.BlkReadsAndWrites : Prop :=
  ∀ (s : State) (a : Nat) (v : Word),
    (∃ w d, hostAccess (.rblk a) s = { s with reply := some w, draws := d }) ∧
    (s.status.busy = true → hostAccess (.wblk a v) s = s) ∧
    (s.status.busy = false → a < 32 * s.params.rMax →
      (hostAccess (.rblk a) (hostAccess (.wblk a v) s)).reply = some v ∧
      hostAccess (.wblk a v) s = { s with blk := (hostAccess (.wblk a v) s).blk } ∧
      Claims.keptOutside s.blk (hostAccess (.wblk a v) s).blk a 1 ∧
      ∀ w, s.blk.read? a = some w → hostAccess (.rblk a) s = { s with reply := some w }) ∧
    (s.status.busy = false → 32 * s.params.rMax ≤ a →
      hostAccess (.wblk a v) s = s ∧ hostAccess (.rblk a) s = { s with reply := some 0 })

/-- R206: while BUSY = 1, every write is ignored, a read of STATUS returns STATUS, any other read changes nothing
but the word read and the model's draw counter, and a command is lost. -/
def Obligations.AccessesWhileBusyAreIgnored : Prop :=
  ∀ s : State, s.status.busy = true →
    (∀ i v, hostAccess (.wcsr i v) s = s) ∧ (∀ a v, hostAccess (.wblk a v) s = s) ∧
    hostAccess (.rcsr 1) s = { s with reply := some s.status.word } ∧
    (∀ i, hostAccess (.rcsr i) s =
      { s with reply := (hostAccess (.rcsr i) s).reply, draws := (hostAccess (.rcsr i) s).draws }) ∧
    (∀ a, hostAccess (.rblk a) s =
      { s with reply := (hostAccess (.rblk a) s).reply, draws := (hostAccess (.rblk a) s).draws }) ∧
    (∀ i, exec i s = .next s) ∧ ∀ w, commandMove w s = .next s

/-- R230, R200: no host access but the issue of a command changes STATUS or SEQ, so none records anything in ERR; no
host access at all changes IFY, J, the banks, Y or V; and what a read returns does not depend on the banks, Y, V or
SEQ. The word read as a field is the model's own (log 4). -/
def Obligations.HostAccessesNeverRaise : Prop :=
  ∀ (a : Access) (s : State),
    ((∀ w, a ≠ .wcsr 0 w) ∨ s.status.busy = true →
      (hostAccess a s).status = s.status ∧ (hostAccess a s).seq = s.seq) ∧
    (hostAccess a s).ify = s.ify ∧ (hostAccess a s).j = s.j ∧ (hostAccess a s).xs = s.xs ∧
    (hostAccess a s).inB = s.inB ∧ (hostAccess a s).b = s.b ∧ (hostAccess a s).y = s.y ∧
    (hostAccess a s).v = s.v ∧ (hostAccess a s).params = s.params ∧ (hostAccess a s).agenda = s.agenda ∧
    ∀ (xs inB b : Bank) (y v : Memory) (q : SeqPos),
      (hostAccess a { s with xs := xs, inB := inB, b := b, y := y, v := v, seq := q }).reply = (hostAccess a s).reply

/-- R207, with R201, R202 and R206: a host that keeps to the protocol reads no unspecified CSR, and its writes of R and N
are stored. That an unspecified word is a draw that the counter numbers is the model's own (log 1). -/
def Obligations.ProtocolAccessesAreDefined : Prop :=
  ∀ s : State,
    (∀ i, keepsProtocol s (.rcsr i) = true → (hostAccess (.rcsr i) s).draws = s.draws) ∧
    (∀ v, keepsProtocol s (.wcsr 2 v) = true → (hostAccess (.wcsr 2 v) s).r = v) ∧
    (∀ v, keepsProtocol s (.wcsr 3 v) = true → (hostAccess (.wcsr 3 v) s).n = v)

/-- R61: the word that four bytes make, least significant byte first; byte `4k + m` of a block is bits `8m + 7` to
`8m` of word `k`; and packing and unpacking undo each other. -/
def Obligations.LittleEndianPacking : Prop :=
  (∀ b0 b1 b2 b3 : Byte,
    (packWord b0 b1 b2 b3).toNat = b0.toNat + 2 ^ 8 * b1.toNat + 2 ^ 16 * b2.toNat + 2 ^ 24 * b3.toNat) ∧
  (∀ ws : List Word, packBytes (unpackWords ws) = ws ∧
    ∀ k m (h : k < ws.length), m < 4 → (unpackWords ws)[4 * k + m]? = some (ws[k].extractLsb' (8 * m) 8)) ∧
  ∀ bs : List Byte, ldbListOk bs = true →
    unpackWords (packBytes bs) = bs ∧
    ∀ k, k < (packBytes bs).length →
      (packBytes bs)[k]? =
        some (packWord (bs.getD (4 * k) 0) (bs.getD (4 * k + 1) 0) (bs.getD (4 * k + 2) 0) (bs.getD (4 * k + 3) 0))

/-- R97: the moves of `ldw`, taken while idle and inside BLK, write the listed words at consecutive addresses, leave
every other word of BLK as it was, and change nothing else. The agenda of moves is the model's own (log 3). -/
def Obligations.LoadWordsWritesConsecutiveWords : Prop :=
  ∀ (s : State) (a : Nat) (ws : List Word) (rest : List Event), s.status.busy = false →
    a + ws.length ≤ s.params.blkWords → s.agenda = expand (.ldw a ws) ++ rest →
    ∃ t, steps ws.length s = .next t ∧
      (∀ k (h : k < ws.length), t.blk.read? (a + k) = some ws[k]) ∧
      Claims.keptOutside s.blk t.blk a ws.length ∧ t = { s with blk := t.blk, agenda := rest }

/-! ### The machine -/

/-- A step takes the next move: the access of the host, the micro-step of the engine, or a word written to CMD with
the whole command it names, which is run by exec; with no move pending the engine goes on. The agenda of moves is the
model's own (log 3), and so are a whole command as one move (log 6, after R69 and R184) and what an empty agenda means (log 16,
after R261). -/
def Obligations.StepRunsDecodedCommand : Prop :=
  ∀ (s : State) (rest : List Event),
    (∀ w i, s.agenda = .command w :: rest → decode w = .ok i → step s = exec i (s.setAgenda rest)) ∧
    (∀ nbits w i, nbits ≤ 32 → decodeTableWord nbits w = some i → step (s.withFetchWord nbits w) = exec i s) ∧
    (∀ a, s.agenda = .host a :: rest → step s = .next (hostAccess a (s.setAgenda rest))) ∧
    (s.agenda = .engine :: rest → step s = microStep (s.setAgenda rest)) ∧
    (s.agenda = [] → step s = microStep s)

/-- R40: the state after reset. STATUS, R, N, IFY and J are 0, SEQ is idle, and no word of BLK, Y or V holds a known
value. -/
def Obligations.ResetLeavesStatedValues : Prop :=
  State.reset.status.word = 0 ∧ State.reset.r = 0 ∧ State.reset.n = 0 ∧ State.reset.ify = 0 ∧ State.reset.j = 0 ∧
    State.reset.seq = ⟨.none, .idle, .fill, 0, 0, 0⟩ ∧
    ∀ a, State.reset.blk.read? a = none ∧ State.reset.y.read? a = none ∧ State.reset.v.read? a = none

/-- R250, R252: Reset, idle or in the middle of a command, is one step that leaves the engine idle with STATUS, R, N,
IFY and J at 0 and no known word in BLK, Y or V. That the capacities and the moves still to come are kept is the
model's own (log 3, log 5). -/
def Obligations.ResetEventAbandonsCommand : Prop :=
  ∀ (s : State) (rest : List Event), s.agenda = .reset :: rest →
    ∃ t, step s = .next t ∧ t.status.word = 0 ∧ t.r = 0 ∧ t.n = 0 ∧ t.ify = 0 ∧ t.j = 0 ∧
      t.seq = ⟨.none, .idle, .fill, 0, 0, 0⟩ ∧ t.params = s.params ∧ t.agenda = rest ∧
      ∀ a, t.blk.read? a = none ∧ t.y.read? a = none ∧ t.v.read? a = none

/-- R183, column "next MS": which label follows which. In IDLE nothing happens. -/
def Obligations.SequencerFollowsTable : Prop :=
  ∀ s t : State, microStep s = .next t →
    (s.seq.ms = .idle → t = s) ∧
    (s.seq.ms = .kLoadX → t.seq.ms = .sLoad) ∧
    (s.seq.ms = .sLoad → t.seq.ms = .sDr ∧ t.seq.d = 0) ∧
    (s.seq.ms = .sDr → t.seq.d = s.seq.d + 1 ∧ ((t.seq.d < 4 ∧ t.seq.ms = .sDr) ∨ (t.seq.d = 4 ∧ t.seq.ms = .sFf))) ∧
    (s.seq.ms = .sFf → (s.seq.op = .salsa ∧ t.seq.ms = .kStoreX) ∨
      ((s.seq.op = .bmix ∨ s.seq.op = .romix) ∧ t.seq.ms = .mStore)) ∧
    (s.seq.ms = .kStoreX → t.seq.ms = .finish) ∧
    (s.seq.ms = .mInit → t.seq.ms = .mXor ∧ t.seq.c = 0) ∧
    (s.seq.ms = .mXor → t.seq.ms = .sLoad) ∧
    (s.seq.ms = .mStore → t.seq.c = s.seq.c + 1 ∧
      ((t.seq.c < 2 * s.rNat ∧ t.seq.ms = .mXor) ∨ (t.seq.c = 2 * s.rNat ∧ t.seq.ms = .mCommit))) ∧
    (s.seq.ms = .mCommit → (s.seq.op = .bmix ∧ t.seq.ms = .finish) ∨ (s.seq.op = .romix ∧ t.seq.ms = .qNext)) ∧
    (s.seq.ms = .fIfy → t.seq.ms = .finish) ∧
    (s.seq.ms = .qInit → t.seq.ms = .qSnap ∧ t.seq.pass = .fill ∧ t.seq.i = 0) ∧
    (s.seq.ms = .qSnap → t.seq.ms = .mInit) ∧
    (s.seq.ms = .qNext →
      (s.seq.pass = .fill ∧ s.seq.i + 1 < s.nNat ∧ t.seq.ms = .qSnap ∧ t.seq.pass = .fill ∧ t.seq.i = s.seq.i + 1) ∨
      (s.seq.pass = .fill ∧ s.seq.i + 1 = s.nNat ∧ t.seq.ms = .qIdx ∧ t.seq.pass = .mix ∧ t.seq.i = 0) ∨
      (s.seq.pass = .mix ∧ s.seq.i + 1 < s.nNat ∧ t.seq.ms = .qIdx ∧ t.seq.pass = .mix ∧ t.seq.i = s.seq.i + 1) ∨
      (s.seq.pass = .mix ∧ s.seq.i + 1 = s.nNat ∧ t.seq.ms = .finish ∧ t.seq.i = s.seq.i + 1)) ∧
    (s.seq.ms = .qIdx → t.seq.ms = .qXor) ∧
    (s.seq.ms = .qXor → t.seq.ms = .mInit) ∧
    (s.seq.ms = .finish → t.seq.ms = .idle ∧ t.seq.op = .none ∧ t.status.busy = false ∧ t.status.done = true ∧
      t.status.err = s.status.err) ∧
    (s.seq.ms ≠ .finish → t.seq.op = s.seq.op)

/-- R24, R25, R37, R39, R183: what one micro-step can change. No micro-step writes R or N; only FINISH writes STATUS
and OP; only F_IFY and Q_IDX write IFY, and only Q_IDX writes J; only K_LOADX, S_FF, M_INIT and M_XOR write XS, only
S_LOAD writes IN, only S_LOAD and S_DR write B; only Q_INIT and Q_NEXT write PASS and I, only M_INIT and M_STORE write
C, only S_LOAD and S_DR write D. Only K_STOREX (words 0 to 15), M_COMMIT and Q_XOR (words 0 to `32r - 1`) write BLK,
only M_STORE (the 16 words of chunk `dst(C, r)`) writes Y, and only Q_SNAP (the `32r` words of slot I) writes V; every
other word of these is unchanged. -/
def Obligations.MicroStepFrame : Prop :=
  ∀ s t : State, microStep s = .next t →
    Claims.hostFieldsKept s t ∧
    (s.seq.ms ≠ .finish → t.status = s.status ∧ t.seq.op = s.seq.op) ∧
    (s.seq.ms ≠ .fIfy → s.seq.ms ≠ .qIdx → t.ify = s.ify) ∧
    (s.seq.ms ≠ .qIdx → t.j = s.j) ∧
    (s.seq.ms ≠ .kLoadX → s.seq.ms ≠ .sFf → s.seq.ms ≠ .mInit → s.seq.ms ≠ .mXor → t.xs = s.xs) ∧
    (s.seq.ms ≠ .sLoad → t.inB = s.inB) ∧
    (s.seq.ms ≠ .sLoad → s.seq.ms ≠ .sDr → t.b = s.b) ∧
    (s.seq.ms ≠ .qInit → s.seq.ms ≠ .qNext → t.seq.pass = s.seq.pass ∧ t.seq.i = s.seq.i) ∧
    (s.seq.ms ≠ .mInit → s.seq.ms ≠ .mStore → t.seq.c = s.seq.c) ∧
    (s.seq.ms ≠ .sLoad → s.seq.ms ≠ .sDr → t.seq.d = s.seq.d) ∧
    (s.seq.ms ≠ .kStoreX → s.seq.ms ≠ .mCommit → s.seq.ms ≠ .qXor → t.blk = s.blk) ∧
    (s.seq.ms = .kStoreX → Claims.keptOutside s.blk t.blk 0 16) ∧
    (s.seq.ms = .mCommit ∨ s.seq.ms = .qXor → Claims.keptOutside s.blk t.blk 0 (extent s.rNat)) ∧
    (s.seq.ms ≠ .mStore → t.y = s.y) ∧
    (s.seq.ms = .mStore → Claims.keptOutside s.y t.y (chunkAddr (dst s.seq.c s.rNat)) 16) ∧
    (s.seq.ms ≠ .qSnap → t.v = s.v) ∧
    (s.seq.ms = .qSnap → Claims.keptOutside s.v t.v (slotAddr s.seq.i s.rNat) (extent s.rNat))

/-- The memory operations, by which every space of R60 is an array of words: a read after a write, the frame of a
write, and that a write keeps the canonical form of the model's memories (log 2) and the bounds. -/
def Obligations.MemoryReadAfterWrite : Prop :=
  ∀ (m : Memory) (a a' : Nat) (v : Word),
    (m.write a v).read? a = some v ∧ (a' ≠ a → (m.write a v).read? a' = m.read? a') ∧
    (m.wf → (m.write a v).wf) ∧ ∀ size, m.within size → a < size → (m.write a v).within size

/-- The invariants hold right after reset. -/
def Obligations.InvariantHoldsAtReset : Prop :=
  LegalState State.reset ∧ tableWritten State.reset ∧ outputWritten State.reset

/-- R23, R183, R60: every step from a legal state leads to a legal state: STATUS has one of its four forms, BUSY
says whether a command is in progress, SEQ is at a position R183 allows, and the memories stay canonical and inside
their spaces. -/
def Obligations.StepKeepsInvariant : Prop :=
  ∀ s t : State, LegalState s → step s = .next t → LegalState t

/-- R63, R220: from a legal state no run stops: once a command has been accepted nothing can fail, and the engine
never forms an address outside a space. -/
def Obligations.LegalStatesNeverStop : Prop :=
  ∀ (s : State) (count : Nat), LegalState s → runsSafely count s

/-- R72, R160, R187: every step keeps that, while a ROMIX runs, the slots of V that R187 says it has written hold written
words, and, while a BlockMix runs, so do the chunks of Y it has stored. Written means written since reset, by whichever
command; HiddenStateNeverInfluencesCommands says that no earlier command's words matter. -/
def Obligations.StepKeepsTableAndOutputWritten : Prop :=
  ∀ s t : State, LegalState s → tableWritten s → outputWritten s → step s = .next t → tableWritten t ∧ outputWritten t

/-- R72, R160: so Q_XOR and M_COMMIT read words of V and of Y that have been written since reset: Q_XOR reads a slot
below `n`, which holds written words throughout, and M_COMMIT an output that does. -/
def Obligations.TableAndOutputReadOnlyWrittenWords : Prop :=
  ∀ s : State, LegalState s → tableWritten s → outputWritten s →
    (s.seq.ms = .qXor → s.j.toNat < s.nNat ∧
      ∀ k, k < 32 * s.rNat → s.v.read? (s.j.toNat * 32 * s.rNat + k) ≠ none) ∧
    (s.seq.ms = .mCommit → ∀ k, k < 32 * s.rNat → s.y.read? k ≠ none)

/-- R187, R178: in the mix pass of a ROMIX no micro-step changes V, and in neither pass one changes a word of V at
or above `n·32r`, or a word of BLK or Y at or above `32r`. -/
def Obligations.RomixConfinesItsWrites : Prop :=
  ∀ s t : State, LegalState s → s.seq.op = .romix → microStep s = .next t →
    (s.seq.pass = .mix → t.v = s.v) ∧
    Claims.keptOutside s.v t.v 0 (s.nNat * 32 * s.rNat) ∧
    Claims.keptOutside s.blk t.blk 0 (32 * s.rNat) ∧ Claims.keptOutside s.y t.y 0 (32 * s.rNat)

/-- R97, R185: a poll of STATUS returns: from a legal state, `wait` ends after finitely many steps, with BUSY = 0 and
the value of STATUS as the word read. The agenda of moves, and a poll as a move of it, are the model's own (log 3, log
12). -/
def Obligations.WaitTerminates : Prop :=
  ∀ (s : State) (rest : List Event), LegalState s → s.agenda = .wait :: rest →
    ∃ k t, steps k s = .next t ∧ t.agenda = rest ∧ t.status.busy = false ∧
      t.reply = some t.status.word
end

