-- ==== Sys2Proof/Laws/Blocks.lean ====
section
/-! SUPPORT. The functions on blocks, word by word and one iteration at a time, and that the destination function of R154
and its inverse undo each other. -/

namespace Sys2Proof.Machine

variable {r n : Nat}

/-! ### Destinations -/

theorem dstInverse_lt {p : Nat} (h : p < 2 * r) : dstInverse p r < 2 * r := by
  unfold dstInverse; split <;> omega

theorem dst_lt {i : Nat} (h : i < 2 * r) : dst i r < 2 * r := by
  unfold dst; split <;> omega

theorem dst_dstInverse (p r : Nat) : dst (dstInverse p r) r = p := by
  unfold dst dstInverse; split <;> split <;> omega

theorem dstInverse_dst {i : Nat} (h : i < 2 * r) : dstInverse (dst i r) r = i := by
  unfold dst dstInverse; split <;> split <;> omega

/-! ### BlockMix -/

@[simp] theorem getElem_xorRun {count : Nat} (x y : Vector Word count) {k : Nat} (h : k < count) :
    (xorRun x y)[k] = xorW x[k] y[k] := by
  simp [xorRun]

@[simp] theorem getElem_chunkOf (b : Block r) {i k : Nat} (h : i < 2 * r) (hk : k < 16) :
    (chunkOf b i h)[k] = b[chunkAddr i + k]'(by unfold chunkAddr; omega) := by
  simp [chunkOf]

theorem mixState_zero (b : Block r) (h : 0 < 2 * r) :
    mixState b 0 h = salsa8 (xorRun (chunkOf b (2 * r - 1) (by omega)) (chunkOf b 0 h)) := rfl

theorem mixState_succ (b : Block r) {i : Nat} (h : i + 1 < 2 * r) :
    mixState b (i + 1) h = salsa8 (xorRun (mixState b i (by omega)) (chunkOf b (i + 1) h)) := rfl

theorem getElem_blockMix (b : Block r) {k : Nat} (h : k < 32 * r) :
    (blockMix b)[k] = (mixState b (dstInverse (k / 16) r) (dstInverse_lt (by omega)))[k % 16]'(by omega) := by
  simp [blockMix]

/-! ### ROMix -/

theorem fillPass_succ (b : Block r) :
    fillPass (n + 1) b = ((fillPass n b).1.push (fillPass n b).2, blockMix (fillPass n b).2) := rfl

theorem mixPass_succ (hr : 1 ≤ r) (hn : 1 ≤ n) (vs : Vector (Block r) n) (count : Nat) (x : Block r) :
    mixPass hr hn vs (count + 1) x = mixPass hr hn vs count (mixStep hr hn vs x) := rfl

end Sys2Proof.Machine
end

