-- ==== Sys2Proof/Laws/Memory.lean ====
section
/-! SUPPORT. What the memory operations do: a read after a write, the canonical form, and the bounds of a space. -/

namespace Sys2Proof.Machine

/-! ### One word -/

@[simp] theorem read?_nil (a : Nat) : Memory.read? [] a = none := rfl

theorem read?_write_same (m : Memory) (a : Nat) (v : Word) : (m.write a v).read? a = some v := by
  induction m with
  | nil => simp [Memory.write, Memory.read?]
  | cons p rest ih =>
    obtain ⟨b, w⟩ := p
    simp only [Memory.write]
    split
    · simp [Memory.read?]
    · split
      · simp [Memory.read?]
      · simp [Memory.read?, *]

theorem read?_write_other (m : Memory) {a a' : Nat} (v : Word) (h : a' ≠ a) :
    (m.write a v).read? a' = m.read? a' := by
  induction m with
  | nil => simp [Memory.write, Memory.read?, h]
  | cons p rest ih =>
    obtain ⟨b, w⟩ := p
    simp only [Memory.write]
    split
    · simp [Memory.read?, h]
    · split
      · subst_vars; simp [Memory.read?, h]
      · simp [Memory.read?, ih]

theorem read?_write (m : Memory) (a a' : Nat) (v : Word) :
    (m.write a v).read? a' = if a' = a then some v else m.read? a' := by
  split
  · subst_vars; exact read?_write_same m _ v
  · exact read?_write_other m v ‹_›

theorem mem_write {m : Memory} {a : Nat} {v : Word} {p : Cell} (h : p ∈ m.write a v) : p = (a, v) ∨ p ∈ m := by
  induction m with
  | nil => simpa [Memory.write] using h
  | cons q rest ih =>
    obtain ⟨b, w⟩ := q
    simp only [Memory.write] at h
    split at h
    · simpa using h
    · split at h
      · simp only [List.mem_cons] at h ⊢
        tauto
      · simp only [List.mem_cons] at h ⊢
        rcases h with h | h
        · exact .inr (.inl h)
        · exact (ih h).imp_right .inr

theorem wf_write {m : Memory} (h : m.wf) (a : Nat) (v : Word) : (m.write a v).wf := by
  induction m with
  | nil => simp [Memory.wf, Memory.write]
  | cons p rest ih =>
    obtain ⟨b, w⟩ := p
    obtain ⟨hb, hr⟩ := List.pairwise_cons.mp h
    simp only [Memory.write]
    split
    · rename_i hab
      refine List.pairwise_cons.mpr ⟨fun q hq => ?_, h⟩
      rcases List.mem_cons.mp hq with rfl | hq
      · exact hab
      · exact Nat.lt_trans hab (hb q hq)
    · split
      · subst_vars; exact List.pairwise_cons.mpr ⟨hb, hr⟩
      · refine List.pairwise_cons.mpr ⟨fun q hq => ?_, ih hr⟩
        rcases mem_write hq with rfl | hq
        · exact by dsimp only; omega
        · exact hb q hq

theorem within_write {m : Memory} {size a : Nat} (h : m.within size) (ha : a < size) (v : Word) :
    (m.write a v).within size := by
  intro p hp
  rcases mem_write hp with rfl | hp
  · exact ha
  · exact h p hp

/-! ### Runs of words -/

@[simp] theorem writeRun_nil (m : Memory) (a : Nat) : m.writeRun a [] = m := rfl

theorem wf_writeRun {m : Memory} (h : m.wf) (a : Nat) (ws : List Word) : (m.writeRun a ws).wf := by
  induction ws generalizing m a with
  | nil => exact h
  | cons w ws ih => exact ih (wf_write h a w) (a + 1)

theorem within_writeRun {m : Memory} {size a : Nat} {ws : List Word} (h : m.within size)
    (ha : a + ws.length ≤ size) : (m.writeRun a ws).within size := by
  induction ws generalizing m a with
  | nil => exact h
  | cons w ws ih =>
    simp only [List.length_cons] at ha
    exact ih (within_write h (by omega) w) (by omega)

theorem read?_writeRun_outside (m : Memory) {a a' : Nat} (ws : List Word) (h : a' < a ∨ a + ws.length ≤ a') :
    (m.writeRun a ws).read? a' = m.read? a' := by
  induction ws generalizing m a with
  | nil => rfl
  | cons w ws ih =>
    simp only [List.length_cons] at h
    rw [Memory.writeRun, ih _ (by omega), read?_write_other _ _ (by omega)]

theorem read?_writeRun_inside (m : Memory) (a : Nat) (ws : List Word) {k : Nat} (h : k < ws.length) :
    (m.writeRun a ws).read? (a + k) = some ws[k] := by
  induction ws generalizing m a k with
  | nil => simp at h
  | cons w ws ih =>
    rw [Memory.writeRun]
    cases k with
    | zero => rw [read?_writeRun_outside _ _ (by omega)]; exact read?_write_same m a w
    | succ k =>
      have := ih (m.write a w) (a + 1) (k := k) (by simpa using h)
      rw [show a + (k + 1) = a + 1 + k by omega, this]; simp

@[simp] theorem getElem_run (m : Memory) (src : Source) (draw a count : Nat) {k : Nat} (h : k < count) :
    (m.run src draw a count)[k] = m.word src draw (a + k) := by
  simp [Memory.run]

theorem word_of_read? {m : Memory} {a : Nat} {w : Word} (h : m.read? a = some w) (src : Source) (draw : Nat) :
    m.word src draw a = w := by
  simp [Memory.word, h]

/-! ### Blocks that have been written whole -/

theorem holds_writeRun {count : Nat} (m : Memory) (x : Vector Word count) : (m.writeRun 0 x.toList).holds x :=
  fun k h => by
    have hk := read?_writeRun_inside m 0 x.toList (k := k) (by simpa using h)
    rwa [Nat.zero_add] at hk

theorem run_of_holds {count : Nat} {m : Memory} {x : Vector Word count} (h : m.holds x) (src : Source) (draw : Nat) :
    m.run src draw 0 count = x :=
  Vector.ext fun k hk => by
    rw [getElem_run, Nat.zero_add]
    exact word_of_read? (h k hk) src draw

theorem holds_unique {count : Nat} {m : Memory} {x y : Vector Word count} (hx : m.holds x) (hy : m.holds y) : x = y :=
  Vector.ext fun k h => Option.some.inj ((hx k h).symm.trans (hy k h))

end Sys2Proof.Machine
end

