-- ==== Sys2Proof/Laws/State.lean ====
section
/-! SUPPORT. What each named update of State does to each field: one lemma per field per update, true by rfl. -/

namespace Sys2Proof.Machine

variable (s : State)


/-! ### `setStatus` -/

@[simp] theorem setStatus_status (x : Status) : (s.setStatus x).status = x := rfl
@[simp] theorem setStatus_r (x : Status) : (s.setStatus x).r = s.r := rfl
@[simp] theorem setStatus_n (x : Status) : (s.setStatus x).n = s.n := rfl
@[simp] theorem setStatus_ify (x : Status) : (s.setStatus x).ify = s.ify := rfl
@[simp] theorem setStatus_j (x : Status) : (s.setStatus x).j = s.j := rfl
@[simp] theorem setStatus_blk (x : Status) : (s.setStatus x).blk = s.blk := rfl
@[simp] theorem setStatus_xs (x : Status) : (s.setStatus x).xs = s.xs := rfl
@[simp] theorem setStatus_inB (x : Status) : (s.setStatus x).inB = s.inB := rfl
@[simp] theorem setStatus_b (x : Status) : (s.setStatus x).b = s.b := rfl
@[simp] theorem setStatus_y (x : Status) : (s.setStatus x).y = s.y := rfl
@[simp] theorem setStatus_v (x : Status) : (s.setStatus x).v = s.v := rfl
@[simp] theorem setStatus_seq (x : Status) : (s.setStatus x).seq = s.seq := rfl
@[simp] theorem setStatus_params (x : Status) : (s.setStatus x).params = s.params := rfl
@[simp] theorem setStatus_draws (x : Status) : (s.setStatus x).draws = s.draws := rfl
@[simp] theorem setStatus_agenda (x : Status) : (s.setStatus x).agenda = s.agenda := rfl
@[simp] theorem setStatus_reply (x : Status) : (s.setStatus x).reply = s.reply := rfl

/-! ### `setR` -/

@[simp] theorem setR_status (x : Word) : (s.setR x).status = s.status := rfl
@[simp] theorem setR_r (x : Word) : (s.setR x).r = x := rfl
@[simp] theorem setR_n (x : Word) : (s.setR x).n = s.n := rfl
@[simp] theorem setR_ify (x : Word) : (s.setR x).ify = s.ify := rfl
@[simp] theorem setR_j (x : Word) : (s.setR x).j = s.j := rfl
@[simp] theorem setR_blk (x : Word) : (s.setR x).blk = s.blk := rfl
@[simp] theorem setR_xs (x : Word) : (s.setR x).xs = s.xs := rfl
@[simp] theorem setR_inB (x : Word) : (s.setR x).inB = s.inB := rfl
@[simp] theorem setR_b (x : Word) : (s.setR x).b = s.b := rfl
@[simp] theorem setR_y (x : Word) : (s.setR x).y = s.y := rfl
@[simp] theorem setR_v (x : Word) : (s.setR x).v = s.v := rfl
@[simp] theorem setR_seq (x : Word) : (s.setR x).seq = s.seq := rfl
@[simp] theorem setR_params (x : Word) : (s.setR x).params = s.params := rfl
@[simp] theorem setR_draws (x : Word) : (s.setR x).draws = s.draws := rfl
@[simp] theorem setR_agenda (x : Word) : (s.setR x).agenda = s.agenda := rfl
@[simp] theorem setR_reply (x : Word) : (s.setR x).reply = s.reply := rfl

/-! ### `setN` -/

@[simp] theorem setN_status (x : Word) : (s.setN x).status = s.status := rfl
@[simp] theorem setN_r (x : Word) : (s.setN x).r = s.r := rfl
@[simp] theorem setN_n (x : Word) : (s.setN x).n = x := rfl
@[simp] theorem setN_ify (x : Word) : (s.setN x).ify = s.ify := rfl
@[simp] theorem setN_j (x : Word) : (s.setN x).j = s.j := rfl
@[simp] theorem setN_blk (x : Word) : (s.setN x).blk = s.blk := rfl
@[simp] theorem setN_xs (x : Word) : (s.setN x).xs = s.xs := rfl
@[simp] theorem setN_inB (x : Word) : (s.setN x).inB = s.inB := rfl
@[simp] theorem setN_b (x : Word) : (s.setN x).b = s.b := rfl
@[simp] theorem setN_y (x : Word) : (s.setN x).y = s.y := rfl
@[simp] theorem setN_v (x : Word) : (s.setN x).v = s.v := rfl
@[simp] theorem setN_seq (x : Word) : (s.setN x).seq = s.seq := rfl
@[simp] theorem setN_params (x : Word) : (s.setN x).params = s.params := rfl
@[simp] theorem setN_draws (x : Word) : (s.setN x).draws = s.draws := rfl
@[simp] theorem setN_agenda (x : Word) : (s.setN x).agenda = s.agenda := rfl
@[simp] theorem setN_reply (x : Word) : (s.setN x).reply = s.reply := rfl

/-! ### `setIfy` -/

@[simp] theorem setIfy_status (x : Word) : (s.setIfy x).status = s.status := rfl
@[simp] theorem setIfy_r (x : Word) : (s.setIfy x).r = s.r := rfl
@[simp] theorem setIfy_n (x : Word) : (s.setIfy x).n = s.n := rfl
@[simp] theorem setIfy_ify (x : Word) : (s.setIfy x).ify = x := rfl
@[simp] theorem setIfy_j (x : Word) : (s.setIfy x).j = s.j := rfl
@[simp] theorem setIfy_blk (x : Word) : (s.setIfy x).blk = s.blk := rfl
@[simp] theorem setIfy_xs (x : Word) : (s.setIfy x).xs = s.xs := rfl
@[simp] theorem setIfy_inB (x : Word) : (s.setIfy x).inB = s.inB := rfl
@[simp] theorem setIfy_b (x : Word) : (s.setIfy x).b = s.b := rfl
@[simp] theorem setIfy_y (x : Word) : (s.setIfy x).y = s.y := rfl
@[simp] theorem setIfy_v (x : Word) : (s.setIfy x).v = s.v := rfl
@[simp] theorem setIfy_seq (x : Word) : (s.setIfy x).seq = s.seq := rfl
@[simp] theorem setIfy_params (x : Word) : (s.setIfy x).params = s.params := rfl
@[simp] theorem setIfy_draws (x : Word) : (s.setIfy x).draws = s.draws := rfl
@[simp] theorem setIfy_agenda (x : Word) : (s.setIfy x).agenda = s.agenda := rfl
@[simp] theorem setIfy_reply (x : Word) : (s.setIfy x).reply = s.reply := rfl

/-! ### `setJ` -/

@[simp] theorem setJ_status (x : Word) : (s.setJ x).status = s.status := rfl
@[simp] theorem setJ_r (x : Word) : (s.setJ x).r = s.r := rfl
@[simp] theorem setJ_n (x : Word) : (s.setJ x).n = s.n := rfl
@[simp] theorem setJ_ify (x : Word) : (s.setJ x).ify = s.ify := rfl
@[simp] theorem setJ_j (x : Word) : (s.setJ x).j = x := rfl
@[simp] theorem setJ_blk (x : Word) : (s.setJ x).blk = s.blk := rfl
@[simp] theorem setJ_xs (x : Word) : (s.setJ x).xs = s.xs := rfl
@[simp] theorem setJ_inB (x : Word) : (s.setJ x).inB = s.inB := rfl
@[simp] theorem setJ_b (x : Word) : (s.setJ x).b = s.b := rfl
@[simp] theorem setJ_y (x : Word) : (s.setJ x).y = s.y := rfl
@[simp] theorem setJ_v (x : Word) : (s.setJ x).v = s.v := rfl
@[simp] theorem setJ_seq (x : Word) : (s.setJ x).seq = s.seq := rfl
@[simp] theorem setJ_params (x : Word) : (s.setJ x).params = s.params := rfl
@[simp] theorem setJ_draws (x : Word) : (s.setJ x).draws = s.draws := rfl
@[simp] theorem setJ_agenda (x : Word) : (s.setJ x).agenda = s.agenda := rfl
@[simp] theorem setJ_reply (x : Word) : (s.setJ x).reply = s.reply := rfl

/-! ### `setBlk` -/

@[simp] theorem setBlk_status (x : Memory) : (s.setBlk x).status = s.status := rfl
@[simp] theorem setBlk_r (x : Memory) : (s.setBlk x).r = s.r := rfl
@[simp] theorem setBlk_n (x : Memory) : (s.setBlk x).n = s.n := rfl
@[simp] theorem setBlk_ify (x : Memory) : (s.setBlk x).ify = s.ify := rfl
@[simp] theorem setBlk_j (x : Memory) : (s.setBlk x).j = s.j := rfl
@[simp] theorem setBlk_blk (x : Memory) : (s.setBlk x).blk = x := rfl
@[simp] theorem setBlk_xs (x : Memory) : (s.setBlk x).xs = s.xs := rfl
@[simp] theorem setBlk_inB (x : Memory) : (s.setBlk x).inB = s.inB := rfl
@[simp] theorem setBlk_b (x : Memory) : (s.setBlk x).b = s.b := rfl
@[simp] theorem setBlk_y (x : Memory) : (s.setBlk x).y = s.y := rfl
@[simp] theorem setBlk_v (x : Memory) : (s.setBlk x).v = s.v := rfl
@[simp] theorem setBlk_seq (x : Memory) : (s.setBlk x).seq = s.seq := rfl
@[simp] theorem setBlk_params (x : Memory) : (s.setBlk x).params = s.params := rfl
@[simp] theorem setBlk_draws (x : Memory) : (s.setBlk x).draws = s.draws := rfl
@[simp] theorem setBlk_agenda (x : Memory) : (s.setBlk x).agenda = s.agenda := rfl
@[simp] theorem setBlk_reply (x : Memory) : (s.setBlk x).reply = s.reply := rfl

/-! ### `setXs` -/

@[simp] theorem setXs_status (x : Bank) : (s.setXs x).status = s.status := rfl
@[simp] theorem setXs_r (x : Bank) : (s.setXs x).r = s.r := rfl
@[simp] theorem setXs_n (x : Bank) : (s.setXs x).n = s.n := rfl
@[simp] theorem setXs_ify (x : Bank) : (s.setXs x).ify = s.ify := rfl
@[simp] theorem setXs_j (x : Bank) : (s.setXs x).j = s.j := rfl
@[simp] theorem setXs_blk (x : Bank) : (s.setXs x).blk = s.blk := rfl
@[simp] theorem setXs_xs (x : Bank) : (s.setXs x).xs = x := rfl
@[simp] theorem setXs_inB (x : Bank) : (s.setXs x).inB = s.inB := rfl
@[simp] theorem setXs_b (x : Bank) : (s.setXs x).b = s.b := rfl
@[simp] theorem setXs_y (x : Bank) : (s.setXs x).y = s.y := rfl
@[simp] theorem setXs_v (x : Bank) : (s.setXs x).v = s.v := rfl
@[simp] theorem setXs_seq (x : Bank) : (s.setXs x).seq = s.seq := rfl
@[simp] theorem setXs_params (x : Bank) : (s.setXs x).params = s.params := rfl
@[simp] theorem setXs_draws (x : Bank) : (s.setXs x).draws = s.draws := rfl
@[simp] theorem setXs_agenda (x : Bank) : (s.setXs x).agenda = s.agenda := rfl
@[simp] theorem setXs_reply (x : Bank) : (s.setXs x).reply = s.reply := rfl

/-! ### `setInB` -/

@[simp] theorem setInB_status (x : Bank) : (s.setInB x).status = s.status := rfl
@[simp] theorem setInB_r (x : Bank) : (s.setInB x).r = s.r := rfl
@[simp] theorem setInB_n (x : Bank) : (s.setInB x).n = s.n := rfl
@[simp] theorem setInB_ify (x : Bank) : (s.setInB x).ify = s.ify := rfl
@[simp] theorem setInB_j (x : Bank) : (s.setInB x).j = s.j := rfl
@[simp] theorem setInB_blk (x : Bank) : (s.setInB x).blk = s.blk := rfl
@[simp] theorem setInB_xs (x : Bank) : (s.setInB x).xs = s.xs := rfl
@[simp] theorem setInB_inB (x : Bank) : (s.setInB x).inB = x := rfl
@[simp] theorem setInB_b (x : Bank) : (s.setInB x).b = s.b := rfl
@[simp] theorem setInB_y (x : Bank) : (s.setInB x).y = s.y := rfl
@[simp] theorem setInB_v (x : Bank) : (s.setInB x).v = s.v := rfl
@[simp] theorem setInB_seq (x : Bank) : (s.setInB x).seq = s.seq := rfl
@[simp] theorem setInB_params (x : Bank) : (s.setInB x).params = s.params := rfl
@[simp] theorem setInB_draws (x : Bank) : (s.setInB x).draws = s.draws := rfl
@[simp] theorem setInB_agenda (x : Bank) : (s.setInB x).agenda = s.agenda := rfl
@[simp] theorem setInB_reply (x : Bank) : (s.setInB x).reply = s.reply := rfl

/-! ### `setB` -/

@[simp] theorem setB_status (x : Bank) : (s.setB x).status = s.status := rfl
@[simp] theorem setB_r (x : Bank) : (s.setB x).r = s.r := rfl
@[simp] theorem setB_n (x : Bank) : (s.setB x).n = s.n := rfl
@[simp] theorem setB_ify (x : Bank) : (s.setB x).ify = s.ify := rfl
@[simp] theorem setB_j (x : Bank) : (s.setB x).j = s.j := rfl
@[simp] theorem setB_blk (x : Bank) : (s.setB x).blk = s.blk := rfl
@[simp] theorem setB_xs (x : Bank) : (s.setB x).xs = s.xs := rfl
@[simp] theorem setB_inB (x : Bank) : (s.setB x).inB = s.inB := rfl
@[simp] theorem setB_b (x : Bank) : (s.setB x).b = x := rfl
@[simp] theorem setB_y (x : Bank) : (s.setB x).y = s.y := rfl
@[simp] theorem setB_v (x : Bank) : (s.setB x).v = s.v := rfl
@[simp] theorem setB_seq (x : Bank) : (s.setB x).seq = s.seq := rfl
@[simp] theorem setB_params (x : Bank) : (s.setB x).params = s.params := rfl
@[simp] theorem setB_draws (x : Bank) : (s.setB x).draws = s.draws := rfl
@[simp] theorem setB_agenda (x : Bank) : (s.setB x).agenda = s.agenda := rfl
@[simp] theorem setB_reply (x : Bank) : (s.setB x).reply = s.reply := rfl

/-! ### `setY` -/

@[simp] theorem setY_status (x : Memory) : (s.setY x).status = s.status := rfl
@[simp] theorem setY_r (x : Memory) : (s.setY x).r = s.r := rfl
@[simp] theorem setY_n (x : Memory) : (s.setY x).n = s.n := rfl
@[simp] theorem setY_ify (x : Memory) : (s.setY x).ify = s.ify := rfl
@[simp] theorem setY_j (x : Memory) : (s.setY x).j = s.j := rfl
@[simp] theorem setY_blk (x : Memory) : (s.setY x).blk = s.blk := rfl
@[simp] theorem setY_xs (x : Memory) : (s.setY x).xs = s.xs := rfl
@[simp] theorem setY_inB (x : Memory) : (s.setY x).inB = s.inB := rfl
@[simp] theorem setY_b (x : Memory) : (s.setY x).b = s.b := rfl
@[simp] theorem setY_y (x : Memory) : (s.setY x).y = x := rfl
@[simp] theorem setY_v (x : Memory) : (s.setY x).v = s.v := rfl
@[simp] theorem setY_seq (x : Memory) : (s.setY x).seq = s.seq := rfl
@[simp] theorem setY_params (x : Memory) : (s.setY x).params = s.params := rfl
@[simp] theorem setY_draws (x : Memory) : (s.setY x).draws = s.draws := rfl
@[simp] theorem setY_agenda (x : Memory) : (s.setY x).agenda = s.agenda := rfl
@[simp] theorem setY_reply (x : Memory) : (s.setY x).reply = s.reply := rfl

/-! ### `setV` -/

@[simp] theorem setV_status (x : Memory) : (s.setV x).status = s.status := rfl
@[simp] theorem setV_r (x : Memory) : (s.setV x).r = s.r := rfl
@[simp] theorem setV_n (x : Memory) : (s.setV x).n = s.n := rfl
@[simp] theorem setV_ify (x : Memory) : (s.setV x).ify = s.ify := rfl
@[simp] theorem setV_j (x : Memory) : (s.setV x).j = s.j := rfl
@[simp] theorem setV_blk (x : Memory) : (s.setV x).blk = s.blk := rfl
@[simp] theorem setV_xs (x : Memory) : (s.setV x).xs = s.xs := rfl
@[simp] theorem setV_inB (x : Memory) : (s.setV x).inB = s.inB := rfl
@[simp] theorem setV_b (x : Memory) : (s.setV x).b = s.b := rfl
@[simp] theorem setV_y (x : Memory) : (s.setV x).y = s.y := rfl
@[simp] theorem setV_v (x : Memory) : (s.setV x).v = x := rfl
@[simp] theorem setV_seq (x : Memory) : (s.setV x).seq = s.seq := rfl
@[simp] theorem setV_params (x : Memory) : (s.setV x).params = s.params := rfl
@[simp] theorem setV_draws (x : Memory) : (s.setV x).draws = s.draws := rfl
@[simp] theorem setV_agenda (x : Memory) : (s.setV x).agenda = s.agenda := rfl
@[simp] theorem setV_reply (x : Memory) : (s.setV x).reply = s.reply := rfl

/-! ### `setSeq` -/

@[simp] theorem setSeq_status (x : SeqPos) : (s.setSeq x).status = s.status := rfl
@[simp] theorem setSeq_r (x : SeqPos) : (s.setSeq x).r = s.r := rfl
@[simp] theorem setSeq_n (x : SeqPos) : (s.setSeq x).n = s.n := rfl
@[simp] theorem setSeq_ify (x : SeqPos) : (s.setSeq x).ify = s.ify := rfl
@[simp] theorem setSeq_j (x : SeqPos) : (s.setSeq x).j = s.j := rfl
@[simp] theorem setSeq_blk (x : SeqPos) : (s.setSeq x).blk = s.blk := rfl
@[simp] theorem setSeq_xs (x : SeqPos) : (s.setSeq x).xs = s.xs := rfl
@[simp] theorem setSeq_inB (x : SeqPos) : (s.setSeq x).inB = s.inB := rfl
@[simp] theorem setSeq_b (x : SeqPos) : (s.setSeq x).b = s.b := rfl
@[simp] theorem setSeq_y (x : SeqPos) : (s.setSeq x).y = s.y := rfl
@[simp] theorem setSeq_v (x : SeqPos) : (s.setSeq x).v = s.v := rfl
@[simp] theorem setSeq_seq (x : SeqPos) : (s.setSeq x).seq = x := rfl
@[simp] theorem setSeq_params (x : SeqPos) : (s.setSeq x).params = s.params := rfl
@[simp] theorem setSeq_draws (x : SeqPos) : (s.setSeq x).draws = s.draws := rfl
@[simp] theorem setSeq_agenda (x : SeqPos) : (s.setSeq x).agenda = s.agenda := rfl
@[simp] theorem setSeq_reply (x : SeqPos) : (s.setSeq x).reply = s.reply := rfl

/-! ### `setDraws` -/

@[simp] theorem setDraws_status (x : Nat) : (s.setDraws x).status = s.status := rfl
@[simp] theorem setDraws_r (x : Nat) : (s.setDraws x).r = s.r := rfl
@[simp] theorem setDraws_n (x : Nat) : (s.setDraws x).n = s.n := rfl
@[simp] theorem setDraws_ify (x : Nat) : (s.setDraws x).ify = s.ify := rfl
@[simp] theorem setDraws_j (x : Nat) : (s.setDraws x).j = s.j := rfl
@[simp] theorem setDraws_blk (x : Nat) : (s.setDraws x).blk = s.blk := rfl
@[simp] theorem setDraws_xs (x : Nat) : (s.setDraws x).xs = s.xs := rfl
@[simp] theorem setDraws_inB (x : Nat) : (s.setDraws x).inB = s.inB := rfl
@[simp] theorem setDraws_b (x : Nat) : (s.setDraws x).b = s.b := rfl
@[simp] theorem setDraws_y (x : Nat) : (s.setDraws x).y = s.y := rfl
@[simp] theorem setDraws_v (x : Nat) : (s.setDraws x).v = s.v := rfl
@[simp] theorem setDraws_seq (x : Nat) : (s.setDraws x).seq = s.seq := rfl
@[simp] theorem setDraws_params (x : Nat) : (s.setDraws x).params = s.params := rfl
@[simp] theorem setDraws_draws (x : Nat) : (s.setDraws x).draws = x := rfl
@[simp] theorem setDraws_agenda (x : Nat) : (s.setDraws x).agenda = s.agenda := rfl
@[simp] theorem setDraws_reply (x : Nat) : (s.setDraws x).reply = s.reply := rfl

/-! ### `setAgenda` -/

@[simp] theorem setAgenda_status (x : List Event) : (s.setAgenda x).status = s.status := rfl
@[simp] theorem setAgenda_r (x : List Event) : (s.setAgenda x).r = s.r := rfl
@[simp] theorem setAgenda_n (x : List Event) : (s.setAgenda x).n = s.n := rfl
@[simp] theorem setAgenda_ify (x : List Event) : (s.setAgenda x).ify = s.ify := rfl
@[simp] theorem setAgenda_j (x : List Event) : (s.setAgenda x).j = s.j := rfl
@[simp] theorem setAgenda_blk (x : List Event) : (s.setAgenda x).blk = s.blk := rfl
@[simp] theorem setAgenda_xs (x : List Event) : (s.setAgenda x).xs = s.xs := rfl
@[simp] theorem setAgenda_inB (x : List Event) : (s.setAgenda x).inB = s.inB := rfl
@[simp] theorem setAgenda_b (x : List Event) : (s.setAgenda x).b = s.b := rfl
@[simp] theorem setAgenda_y (x : List Event) : (s.setAgenda x).y = s.y := rfl
@[simp] theorem setAgenda_v (x : List Event) : (s.setAgenda x).v = s.v := rfl
@[simp] theorem setAgenda_seq (x : List Event) : (s.setAgenda x).seq = s.seq := rfl
@[simp] theorem setAgenda_params (x : List Event) : (s.setAgenda x).params = s.params := rfl
@[simp] theorem setAgenda_draws (x : List Event) : (s.setAgenda x).draws = s.draws := rfl
@[simp] theorem setAgenda_agenda (x : List Event) : (s.setAgenda x).agenda = x := rfl
@[simp] theorem setAgenda_reply (x : List Event) : (s.setAgenda x).reply = s.reply := rfl

/-! ### `setReply` -/

@[simp] theorem setReply_status (x : Option Word) : (s.setReply x).status = s.status := rfl
@[simp] theorem setReply_r (x : Option Word) : (s.setReply x).r = s.r := rfl
@[simp] theorem setReply_n (x : Option Word) : (s.setReply x).n = s.n := rfl
@[simp] theorem setReply_ify (x : Option Word) : (s.setReply x).ify = s.ify := rfl
@[simp] theorem setReply_j (x : Option Word) : (s.setReply x).j = s.j := rfl
@[simp] theorem setReply_blk (x : Option Word) : (s.setReply x).blk = s.blk := rfl
@[simp] theorem setReply_xs (x : Option Word) : (s.setReply x).xs = s.xs := rfl
@[simp] theorem setReply_inB (x : Option Word) : (s.setReply x).inB = s.inB := rfl
@[simp] theorem setReply_b (x : Option Word) : (s.setReply x).b = s.b := rfl
@[simp] theorem setReply_y (x : Option Word) : (s.setReply x).y = s.y := rfl
@[simp] theorem setReply_v (x : Option Word) : (s.setReply x).v = s.v := rfl
@[simp] theorem setReply_seq (x : Option Word) : (s.setReply x).seq = s.seq := rfl
@[simp] theorem setReply_params (x : Option Word) : (s.setReply x).params = s.params := rfl
@[simp] theorem setReply_draws (x : Option Word) : (s.setReply x).draws = s.draws := rfl
@[simp] theorem setReply_agenda (x : Option Word) : (s.setReply x).agenda = s.agenda := rfl
@[simp] theorem setReply_reply (x : Option Word) : (s.setReply x).reply = x := rfl

/-! ### `drawn` -/

@[simp] theorem drawn_status : s.drawn.status = s.status := rfl
@[simp] theorem drawn_r : s.drawn.r = s.r := rfl
@[simp] theorem drawn_n : s.drawn.n = s.n := rfl
@[simp] theorem drawn_ify : s.drawn.ify = s.ify := rfl
@[simp] theorem drawn_j : s.drawn.j = s.j := rfl
@[simp] theorem drawn_blk : s.drawn.blk = s.blk := rfl
@[simp] theorem drawn_xs : s.drawn.xs = s.xs := rfl
@[simp] theorem drawn_inB : s.drawn.inB = s.inB := rfl
@[simp] theorem drawn_b : s.drawn.b = s.b := rfl
@[simp] theorem drawn_y : s.drawn.y = s.y := rfl
@[simp] theorem drawn_v : s.drawn.v = s.v := rfl
@[simp] theorem drawn_seq : s.drawn.seq = s.seq := rfl
@[simp] theorem drawn_params : s.drawn.params = s.params := rfl
@[simp] theorem drawn_draws : s.drawn.draws = s.draws + 1 := rfl
@[simp] theorem drawn_agenda : s.drawn.agenda = s.agenda := rfl
@[simp] theorem drawn_reply : s.drawn.reply = s.reply := rfl

/-! ### `goto` -/

@[simp] theorem goto_status (x : MicroLabel) : (s.goto x).status = s.status := rfl
@[simp] theorem goto_r (x : MicroLabel) : (s.goto x).r = s.r := rfl
@[simp] theorem goto_n (x : MicroLabel) : (s.goto x).n = s.n := rfl
@[simp] theorem goto_ify (x : MicroLabel) : (s.goto x).ify = s.ify := rfl
@[simp] theorem goto_j (x : MicroLabel) : (s.goto x).j = s.j := rfl
@[simp] theorem goto_blk (x : MicroLabel) : (s.goto x).blk = s.blk := rfl
@[simp] theorem goto_xs (x : MicroLabel) : (s.goto x).xs = s.xs := rfl
@[simp] theorem goto_inB (x : MicroLabel) : (s.goto x).inB = s.inB := rfl
@[simp] theorem goto_b (x : MicroLabel) : (s.goto x).b = s.b := rfl
@[simp] theorem goto_y (x : MicroLabel) : (s.goto x).y = s.y := rfl
@[simp] theorem goto_v (x : MicroLabel) : (s.goto x).v = s.v := rfl
@[simp] theorem goto_params (x : MicroLabel) : (s.goto x).params = s.params := rfl
@[simp] theorem goto_draws (x : MicroLabel) : (s.goto x).draws = s.draws := rfl
@[simp] theorem goto_agenda (x : MicroLabel) : (s.goto x).agenda = s.agenda := rfl
@[simp] theorem goto_reply (x : MicroLabel) : (s.goto x).reply = s.reply := rfl
@[simp] theorem goto_seq_op (x : MicroLabel) : (s.goto x).seq.op = s.seq.op := rfl
@[simp] theorem goto_seq_ms (x : MicroLabel) : (s.goto x).seq.ms = x := rfl
@[simp] theorem goto_seq_pass (x : MicroLabel) : (s.goto x).seq.pass = s.seq.pass := rfl
@[simp] theorem goto_seq_i (x : MicroLabel) : (s.goto x).seq.i = s.seq.i := rfl
@[simp] theorem goto_seq_c (x : MicroLabel) : (s.goto x).seq.c = s.seq.c := rfl
@[simp] theorem goto_seq_d (x : MicroLabel) : (s.goto x).seq.d = s.seq.d := rfl

/-! ### `setC` -/

@[simp] theorem setC_status (x : Nat) : (s.setC x).status = s.status := rfl
@[simp] theorem setC_r (x : Nat) : (s.setC x).r = s.r := rfl
@[simp] theorem setC_n (x : Nat) : (s.setC x).n = s.n := rfl
@[simp] theorem setC_ify (x : Nat) : (s.setC x).ify = s.ify := rfl
@[simp] theorem setC_j (x : Nat) : (s.setC x).j = s.j := rfl
@[simp] theorem setC_blk (x : Nat) : (s.setC x).blk = s.blk := rfl
@[simp] theorem setC_xs (x : Nat) : (s.setC x).xs = s.xs := rfl
@[simp] theorem setC_inB (x : Nat) : (s.setC x).inB = s.inB := rfl
@[simp] theorem setC_b (x : Nat) : (s.setC x).b = s.b := rfl
@[simp] theorem setC_y (x : Nat) : (s.setC x).y = s.y := rfl
@[simp] theorem setC_v (x : Nat) : (s.setC x).v = s.v := rfl
@[simp] theorem setC_params (x : Nat) : (s.setC x).params = s.params := rfl
@[simp] theorem setC_draws (x : Nat) : (s.setC x).draws = s.draws := rfl
@[simp] theorem setC_agenda (x : Nat) : (s.setC x).agenda = s.agenda := rfl
@[simp] theorem setC_reply (x : Nat) : (s.setC x).reply = s.reply := rfl
@[simp] theorem setC_seq_op (x : Nat) : (s.setC x).seq.op = s.seq.op := rfl
@[simp] theorem setC_seq_ms (x : Nat) : (s.setC x).seq.ms = s.seq.ms := rfl
@[simp] theorem setC_seq_pass (x : Nat) : (s.setC x).seq.pass = s.seq.pass := rfl
@[simp] theorem setC_seq_i (x : Nat) : (s.setC x).seq.i = s.seq.i := rfl
@[simp] theorem setC_seq_c (x : Nat) : (s.setC x).seq.c = x := rfl
@[simp] theorem setC_seq_d (x : Nat) : (s.setC x).seq.d = s.seq.d := rfl

/-! ### `setD` -/

@[simp] theorem setD_status (x : Nat) : (s.setD x).status = s.status := rfl
@[simp] theorem setD_r (x : Nat) : (s.setD x).r = s.r := rfl
@[simp] theorem setD_n (x : Nat) : (s.setD x).n = s.n := rfl
@[simp] theorem setD_ify (x : Nat) : (s.setD x).ify = s.ify := rfl
@[simp] theorem setD_j (x : Nat) : (s.setD x).j = s.j := rfl
@[simp] theorem setD_blk (x : Nat) : (s.setD x).blk = s.blk := rfl
@[simp] theorem setD_xs (x : Nat) : (s.setD x).xs = s.xs := rfl
@[simp] theorem setD_inB (x : Nat) : (s.setD x).inB = s.inB := rfl
@[simp] theorem setD_b (x : Nat) : (s.setD x).b = s.b := rfl
@[simp] theorem setD_y (x : Nat) : (s.setD x).y = s.y := rfl
@[simp] theorem setD_v (x : Nat) : (s.setD x).v = s.v := rfl
@[simp] theorem setD_params (x : Nat) : (s.setD x).params = s.params := rfl
@[simp] theorem setD_draws (x : Nat) : (s.setD x).draws = s.draws := rfl
@[simp] theorem setD_agenda (x : Nat) : (s.setD x).agenda = s.agenda := rfl
@[simp] theorem setD_reply (x : Nat) : (s.setD x).reply = s.reply := rfl
@[simp] theorem setD_seq_op (x : Nat) : (s.setD x).seq.op = s.seq.op := rfl
@[simp] theorem setD_seq_ms (x : Nat) : (s.setD x).seq.ms = s.seq.ms := rfl
@[simp] theorem setD_seq_pass (x : Nat) : (s.setD x).seq.pass = s.seq.pass := rfl
@[simp] theorem setD_seq_i (x : Nat) : (s.setD x).seq.i = s.seq.i := rfl
@[simp] theorem setD_seq_c (x : Nat) : (s.setD x).seq.c = s.seq.c := rfl
@[simp] theorem setD_seq_d (x : Nat) : (s.setD x).seq.d = x := rfl

/-! ### `setI` -/

@[simp] theorem setI_status (x : Nat) : (s.setI x).status = s.status := rfl
@[simp] theorem setI_r (x : Nat) : (s.setI x).r = s.r := rfl
@[simp] theorem setI_n (x : Nat) : (s.setI x).n = s.n := rfl
@[simp] theorem setI_ify (x : Nat) : (s.setI x).ify = s.ify := rfl
@[simp] theorem setI_j (x : Nat) : (s.setI x).j = s.j := rfl
@[simp] theorem setI_blk (x : Nat) : (s.setI x).blk = s.blk := rfl
@[simp] theorem setI_xs (x : Nat) : (s.setI x).xs = s.xs := rfl
@[simp] theorem setI_inB (x : Nat) : (s.setI x).inB = s.inB := rfl
@[simp] theorem setI_b (x : Nat) : (s.setI x).b = s.b := rfl
@[simp] theorem setI_y (x : Nat) : (s.setI x).y = s.y := rfl
@[simp] theorem setI_v (x : Nat) : (s.setI x).v = s.v := rfl
@[simp] theorem setI_params (x : Nat) : (s.setI x).params = s.params := rfl
@[simp] theorem setI_draws (x : Nat) : (s.setI x).draws = s.draws := rfl
@[simp] theorem setI_agenda (x : Nat) : (s.setI x).agenda = s.agenda := rfl
@[simp] theorem setI_reply (x : Nat) : (s.setI x).reply = s.reply := rfl
@[simp] theorem setI_seq_op (x : Nat) : (s.setI x).seq.op = s.seq.op := rfl
@[simp] theorem setI_seq_ms (x : Nat) : (s.setI x).seq.ms = s.seq.ms := rfl
@[simp] theorem setI_seq_pass (x : Nat) : (s.setI x).seq.pass = s.seq.pass := rfl
@[simp] theorem setI_seq_i (x : Nat) : (s.setI x).seq.i = x := rfl
@[simp] theorem setI_seq_c (x : Nat) : (s.setI x).seq.c = s.seq.c := rfl
@[simp] theorem setI_seq_d (x : Nat) : (s.setI x).seq.d = s.seq.d := rfl

/-! ### `setPass` -/

@[simp] theorem setPass_status (x : Pass) : (s.setPass x).status = s.status := rfl
@[simp] theorem setPass_r (x : Pass) : (s.setPass x).r = s.r := rfl
@[simp] theorem setPass_n (x : Pass) : (s.setPass x).n = s.n := rfl
@[simp] theorem setPass_ify (x : Pass) : (s.setPass x).ify = s.ify := rfl
@[simp] theorem setPass_j (x : Pass) : (s.setPass x).j = s.j := rfl
@[simp] theorem setPass_blk (x : Pass) : (s.setPass x).blk = s.blk := rfl
@[simp] theorem setPass_xs (x : Pass) : (s.setPass x).xs = s.xs := rfl
@[simp] theorem setPass_inB (x : Pass) : (s.setPass x).inB = s.inB := rfl
@[simp] theorem setPass_b (x : Pass) : (s.setPass x).b = s.b := rfl
@[simp] theorem setPass_y (x : Pass) : (s.setPass x).y = s.y := rfl
@[simp] theorem setPass_v (x : Pass) : (s.setPass x).v = s.v := rfl
@[simp] theorem setPass_params (x : Pass) : (s.setPass x).params = s.params := rfl
@[simp] theorem setPass_draws (x : Pass) : (s.setPass x).draws = s.draws := rfl
@[simp] theorem setPass_agenda (x : Pass) : (s.setPass x).agenda = s.agenda := rfl
@[simp] theorem setPass_reply (x : Pass) : (s.setPass x).reply = s.reply := rfl
@[simp] theorem setPass_seq_op (x : Pass) : (s.setPass x).seq.op = s.seq.op := rfl
@[simp] theorem setPass_seq_ms (x : Pass) : (s.setPass x).seq.ms = s.seq.ms := rfl
@[simp] theorem setPass_seq_pass (x : Pass) : (s.setPass x).seq.pass = x := rfl
@[simp] theorem setPass_seq_i (x : Pass) : (s.setPass x).seq.i = s.seq.i := rfl
@[simp] theorem setPass_seq_c (x : Pass) : (s.setPass x).seq.c = s.seq.c := rfl
@[simp] theorem setPass_seq_d (x : Pass) : (s.setPass x).seq.d = s.seq.d := rfl

/-! ### The parameters as naturals -/

@[simp] theorem setStatus_rNat (x : Status) : (s.setStatus x).rNat = s.rNat := rfl
@[simp] theorem setStatus_nNat (x : Status) : (s.setStatus x).nNat = s.nNat := rfl
@[simp] theorem setR_rNat (x : Word) : (s.setR x).rNat = x.toNat := rfl
@[simp] theorem setR_nNat (x : Word) : (s.setR x).nNat = s.nNat := rfl
@[simp] theorem setN_rNat (x : Word) : (s.setN x).rNat = s.rNat := rfl
@[simp] theorem setN_nNat (x : Word) : (s.setN x).nNat = x.toNat := rfl
@[simp] theorem setIfy_rNat (x : Word) : (s.setIfy x).rNat = s.rNat := rfl
@[simp] theorem setIfy_nNat (x : Word) : (s.setIfy x).nNat = s.nNat := rfl
@[simp] theorem setJ_rNat (x : Word) : (s.setJ x).rNat = s.rNat := rfl
@[simp] theorem setJ_nNat (x : Word) : (s.setJ x).nNat = s.nNat := rfl
@[simp] theorem setBlk_rNat (x : Memory) : (s.setBlk x).rNat = s.rNat := rfl
@[simp] theorem setBlk_nNat (x : Memory) : (s.setBlk x).nNat = s.nNat := rfl
@[simp] theorem setXs_rNat (x : Bank) : (s.setXs x).rNat = s.rNat := rfl
@[simp] theorem setXs_nNat (x : Bank) : (s.setXs x).nNat = s.nNat := rfl
@[simp] theorem setInB_rNat (x : Bank) : (s.setInB x).rNat = s.rNat := rfl
@[simp] theorem setInB_nNat (x : Bank) : (s.setInB x).nNat = s.nNat := rfl
@[simp] theorem setB_rNat (x : Bank) : (s.setB x).rNat = s.rNat := rfl
@[simp] theorem setB_nNat (x : Bank) : (s.setB x).nNat = s.nNat := rfl
@[simp] theorem setY_rNat (x : Memory) : (s.setY x).rNat = s.rNat := rfl
@[simp] theorem setY_nNat (x : Memory) : (s.setY x).nNat = s.nNat := rfl
@[simp] theorem setV_rNat (x : Memory) : (s.setV x).rNat = s.rNat := rfl
@[simp] theorem setV_nNat (x : Memory) : (s.setV x).nNat = s.nNat := rfl
@[simp] theorem setSeq_rNat (x : SeqPos) : (s.setSeq x).rNat = s.rNat := rfl
@[simp] theorem setSeq_nNat (x : SeqPos) : (s.setSeq x).nNat = s.nNat := rfl
@[simp] theorem setDraws_rNat (x : Nat) : (s.setDraws x).rNat = s.rNat := rfl
@[simp] theorem setDraws_nNat (x : Nat) : (s.setDraws x).nNat = s.nNat := rfl
@[simp] theorem setAgenda_rNat (x : List Event) : (s.setAgenda x).rNat = s.rNat := rfl
@[simp] theorem setAgenda_nNat (x : List Event) : (s.setAgenda x).nNat = s.nNat := rfl
@[simp] theorem setReply_rNat (x : Option Word) : (s.setReply x).rNat = s.rNat := rfl
@[simp] theorem setReply_nNat (x : Option Word) : (s.setReply x).nNat = s.nNat := rfl
@[simp] theorem goto_rNat (x : MicroLabel) : (s.goto x).rNat = s.rNat := rfl
@[simp] theorem goto_nNat (x : MicroLabel) : (s.goto x).nNat = s.nNat := rfl
@[simp] theorem setC_rNat (x : Nat) : (s.setC x).rNat = s.rNat := rfl
@[simp] theorem setC_nNat (x : Nat) : (s.setC x).nNat = s.nNat := rfl
@[simp] theorem setD_rNat (x : Nat) : (s.setD x).rNat = s.rNat := rfl
@[simp] theorem setD_nNat (x : Nat) : (s.setD x).nNat = s.nNat := rfl
@[simp] theorem setI_rNat (x : Nat) : (s.setI x).rNat = s.rNat := rfl
@[simp] theorem setI_nNat (x : Nat) : (s.setI x).nNat = s.nNat := rfl
@[simp] theorem setPass_rNat (x : Pass) : (s.setPass x).rNat = s.rNat := rfl
@[simp] theorem setPass_nNat (x : Pass) : (s.setPass x).nNat = s.nNat := rfl
@[simp] theorem drawn_rNat : s.drawn.rNat = s.rNat := rfl
@[simp] theorem drawn_nNat : s.drawn.nNat = s.nNat := rfl

/-! ### `reject` and `accept` -/

variable (i : Instr) (w : Verdict)

@[simp] theorem reject_status : (reject w s).status = .rejected (verdictCode w) := rfl
@[simp] theorem accept_status : (accept i s).status = .running := rfl
@[simp] theorem accept_seq : (accept i s).seq = { s.seq with op := opOf i, ms := firstLabel i } := rfl
@[simp] theorem reject_r : (reject w s).r = s.r := rfl
@[simp] theorem accept_r : (accept i s).r = s.r := rfl
@[simp] theorem reject_n : (reject w s).n = s.n := rfl
@[simp] theorem accept_n : (accept i s).n = s.n := rfl
@[simp] theorem reject_ify : (reject w s).ify = s.ify := rfl
@[simp] theorem accept_ify : (accept i s).ify = s.ify := rfl
@[simp] theorem reject_j : (reject w s).j = s.j := rfl
@[simp] theorem accept_j : (accept i s).j = s.j := rfl
@[simp] theorem reject_blk : (reject w s).blk = s.blk := rfl
@[simp] theorem accept_blk : (accept i s).blk = s.blk := rfl
@[simp] theorem reject_xs : (reject w s).xs = s.xs := rfl
@[simp] theorem accept_xs : (accept i s).xs = s.xs := rfl
@[simp] theorem reject_inB : (reject w s).inB = s.inB := rfl
@[simp] theorem accept_inB : (accept i s).inB = s.inB := rfl
@[simp] theorem reject_b : (reject w s).b = s.b := rfl
@[simp] theorem accept_b : (accept i s).b = s.b := rfl
@[simp] theorem reject_y : (reject w s).y = s.y := rfl
@[simp] theorem accept_y : (accept i s).y = s.y := rfl
@[simp] theorem reject_v : (reject w s).v = s.v := rfl
@[simp] theorem accept_v : (accept i s).v = s.v := rfl
@[simp] theorem reject_seq : (reject w s).seq = s.seq := rfl
@[simp] theorem reject_params : (reject w s).params = s.params := rfl
@[simp] theorem accept_params : (accept i s).params = s.params := rfl
@[simp] theorem reject_draws : (reject w s).draws = s.draws := rfl
@[simp] theorem accept_draws : (accept i s).draws = s.draws := rfl
@[simp] theorem reject_agenda : (reject w s).agenda = s.agenda := rfl
@[simp] theorem accept_agenda : (accept i s).agenda = s.agenda := rfl
@[simp] theorem reject_reply : (reject w s).reply = s.reply := rfl
@[simp] theorem accept_reply : (accept i s).reply = s.reply := rfl
@[simp] theorem reject_rNat : (reject w s).rNat = s.rNat := rfl
@[simp] theorem accept_rNat : (accept i s).rNat = s.rNat := rfl
@[simp] theorem reject_nNat : (reject w s).nNat = s.nNat := rfl
@[simp] theorem accept_nNat : (accept i s).nNat = s.nNat := rfl

end Sys2Proof.Machine
end

