-- ==== Sys2Proof/Laws/Ops.lean ====
section
/-! SUPPORT. The shared operations: when each engine access goes on and with what, and everything it can have done when
it answers a next state. -/

namespace Sys2Proof.Machine

/-! ### Going on from a next state -/

@[simp] theorem andThen_next (s : State) (k : State → Result) : andThen (.next s) k = k s := rfl
@[simp] theorem andThen_fault (f : Fault) (k : State → Result) : andThen (.fault f) k = .fault f := rfl
@[simp] theorem andThen_refused (q : Refusal) (k : State → Result) : andThen (.refused q) k = .refused q := rfl

theorem andThen_eq_next {x : Result} {k : State → Result} {t : State} :
    andThen x k = .next t ↔ ∃ u, x = .next u ∧ k u = .next t := by
  cases x <;> simp

theorem andThen_assoc (x : Result) (f g : State → Result) :
    andThen (andThen x f) g = andThen x fun s => andThen (f s) g := by
  cases x <;> rfl

/-! ### The engine's accesses: inside the space -/

section
variable {s : State} {a count : Nat} {ws : Vector Word count}

theorem withBlkRun_inside {k : Vector Word count → State → Result} (h : a + count ≤ s.params.blkWords) :
    withBlkRun s a count k = k (s.blk.run .blk s.draws a count) s.drawn := if_pos h

theorem withBlkLastWord_inside {k : Word → State → Result} (h : 1 ≤ s.rNat)
    (h' : lastChunkAddr s.rNat < s.params.blkWords) :
    withBlkLastWord s k = k (s.blk.word .blk s.draws (lastChunkAddr s.rNat)) s.drawn := if_pos ⟨h, h'⟩

theorem writeBlk_inside (h : count ≤ s.params.blkWords) :
    writeBlk s ws = .next (s.setBlk (s.blk.writeRun 0 ws.toList)) := if_pos h

theorem withYRun_inside {k : Vector Word count → State → Result} (h : count ≤ s.params.blkWords) :
    withYRun s count k = k (s.y.run .y s.draws 0 count) s.drawn := if_pos h

theorem writeY_inside (h : a + count ≤ s.params.blkWords) :
    writeY s a ws = .next (s.setY (s.y.writeRun a ws.toList)) := if_pos h

theorem withVRun_inside {k : Vector Word count → State → Result} (h : a + count ≤ s.params.vWords) :
    withVRun s a count k = k (s.v.run .v s.draws a count) s.drawn := if_pos h

theorem writeV_inside (h : a + count ≤ s.params.vWords) :
    writeV s a ws = .next (s.setV (s.v.writeRun a ws.toList)) := if_pos h

end

/-! ### The engine's accesses: what a next state says -/

section
variable {s t : State} {a count : Nat} {ws : Vector Word count}

theorem withBlkRun_cases {k : Vector Word count → State → Result} (h : withBlkRun s a count k = .next t) :
    a + count ≤ s.params.blkWords ∧ k (s.blk.run .blk s.draws a count) s.drawn = .next t := by
  unfold withBlkRun at h; split at h
  · exact ⟨‹_›, h⟩
  · simp at h

theorem withBlkLastWord_cases {k : Word → State → Result} (h : withBlkLastWord s k = .next t) :
    1 ≤ s.rNat ∧ lastChunkAddr s.rNat < s.params.blkWords ∧
      k (s.blk.word .blk s.draws (lastChunkAddr s.rNat)) s.drawn = .next t := by
  unfold withBlkLastWord at h; split at h
  · rename_i g; exact ⟨g.1, g.2, h⟩
  · simp at h

theorem writeBlk_cases (h : writeBlk s ws = .next t) :
    count ≤ s.params.blkWords ∧ t = s.setBlk (s.blk.writeRun 0 ws.toList) := by
  unfold writeBlk at h; split at h
  · simp only [Host.Outcome.next.injEq] at h; exact ⟨‹_›, h.symm⟩
  · simp at h

theorem withYRun_cases {k : Vector Word count → State → Result} (h : withYRun s count k = .next t) :
    count ≤ s.params.blkWords ∧ k (s.y.run .y s.draws 0 count) s.drawn = .next t := by
  unfold withYRun at h; split at h
  · exact ⟨‹_›, h⟩
  · simp at h

theorem writeY_cases (h : writeY s a ws = .next t) :
    a + count ≤ s.params.blkWords ∧ t = s.setY (s.y.writeRun a ws.toList) := by
  unfold writeY at h; split at h
  · simp only [Host.Outcome.next.injEq] at h; exact ⟨‹_›, h.symm⟩
  · simp at h

theorem withVRun_cases {k : Vector Word count → State → Result} (h : withVRun s a count k = .next t) :
    a + count ≤ s.params.vWords ∧ k (s.v.run .v s.draws a count) s.drawn = .next t := by
  unfold withVRun at h; split at h
  · exact ⟨‹_›, h⟩
  · simp at h

theorem writeV_cases (h : writeV s a ws = .next t) :
    a + count ≤ s.params.vWords ∧ t = s.setV (s.v.writeRun a ws.toList) := by
  unfold writeV at h; split at h
  · simp only [Host.Outcome.next.injEq] at h; exact ⟨‹_›, h.symm⟩
  · simp at h

end

end Sys2Proof.Machine
end

