-- ==== Sys2Proof/Laws/MicroSteps.lean ====
section
/-! SUPPORT. One lemma for each micro-step that says everything it has done when it answers a next state, and under what
conditions on the counters and addresses. -/

namespace Sys2Proof.Machine

variable {s t : State}

theorem sLoad_cases (h : sLoad s = .next t) : t = (((s.setInB s.xs).setB s.xs).setD 0).goto .sDr := by
  simpa [sLoad] using h.symm

theorem sDr_cases (h : sDr s = .next t) :
    (s.seq.d + 1 < 4 ∧ t = ((s.setB (doubleRound s.b)).setD (s.seq.d + 1)).goto .sDr) ∨
    (s.seq.d + 1 = 4 ∧ t = ((s.setB (doubleRound s.b)).setD (s.seq.d + 1)).goto .sFf) := by
  unfold sDr at h
  split at h
  · exact .inl ⟨‹_›, by simpa using h.symm⟩
  · split at h
    · exact .inr ⟨‹_›, by simpa using h.symm⟩
    · simp at h

theorem sFf_cases (h : sFf s = .next t) :
    (s.seq.op = .salsa ∧ t = (s.setXs (addBank s.inB s.b)).goto .kStoreX) ∨
    ((s.seq.op = .bmix ∨ s.seq.op = .romix) ∧ t = (s.setXs (addBank s.inB s.b)).goto .mStore) := by
  unfold sFf at h
  split at h <;> simp_all

theorem kLoadX_cases (h : kLoadX s = .next t) :
    t = (s.drawn.setXs (s.blk.run .blk s.draws 0 16)).goto .sLoad := by
  simpa using (withBlkRun_cases h).2.symm

theorem kStoreX_cases (h : kStoreX s = .next t) :
    t = (s.setBlk (s.blk.writeRun 0 s.xs.toList)).goto .finish := by
  obtain ⟨u, hu, ht⟩ := andThen_eq_next.mp h
  obtain ⟨-, rfl⟩ := writeBlk_cases hu
  simpa using ht.symm

theorem mInit_cases (h : mInit s = .next t) :
    s.rNat ≠ 0 ∧ lastChunkAddr s.rNat + 16 ≤ s.params.blkWords ∧
      t = ((s.drawn.setXs (s.blk.run .blk s.draws (lastChunkAddr s.rNat) 16)).setC 0).goto .mXor := by
  unfold mInit at h
  split at h
  · simp at h
  · obtain ⟨h1, h2⟩ := withBlkRun_cases h
    exact ⟨‹_›, h1, by simpa using h2.symm⟩

theorem mXor_cases (h : mXor s = .next t) :
    chunkAddr s.seq.c + 16 ≤ s.params.blkWords ∧
      t = (s.drawn.setXs (xorRun s.xs (s.blk.run .blk s.draws (chunkAddr s.seq.c) 16))).goto .sLoad := by
  obtain ⟨h1, h2⟩ := withBlkRun_cases h
  exact ⟨h1, by simpa using h2.symm⟩

theorem mStore_cases (h : mStore s = .next t) :
    chunkAddr (dst s.seq.c s.rNat) + 16 ≤ s.params.blkWords ∧
    ((s.seq.c + 1 < 2 * s.rNat ∧
        t = ((s.setY (s.y.writeRun (chunkAddr (dst s.seq.c s.rNat)) s.xs.toList)).setC (s.seq.c + 1)).goto .mXor) ∨
     (s.seq.c + 1 = 2 * s.rNat ∧
        t = ((s.setY (s.y.writeRun (chunkAddr (dst s.seq.c s.rNat)) s.xs.toList)).setC (s.seq.c + 1)).goto .mCommit)) := by
  obtain ⟨u, hu, ht⟩ := andThen_eq_next.mp h
  obtain ⟨h1, rfl⟩ := writeY_cases hu
  refine ⟨by simpa using h1, ?_⟩
  split at ht
  · exact .inl ⟨‹_›, by simpa using ht.symm⟩
  · split at ht
    · exact .inr ⟨‹_›, by simpa using ht.symm⟩
    · simp at ht

theorem mCommit_cases (h : mCommit s = .next t) :
    extent s.rNat ≤ s.params.blkWords ∧
    ((s.seq.op = .bmix ∧
        t = (s.drawn.setBlk (s.blk.writeRun 0 (s.y.run .y s.draws 0 (extent s.rNat)).toList)).goto .finish) ∨
     (s.seq.op = .romix ∧
        t = (s.drawn.setBlk (s.blk.writeRun 0 (s.y.run .y s.draws 0 (extent s.rNat)).toList)).goto .qNext)) := by
  obtain ⟨h1, h2⟩ := withYRun_cases h
  obtain ⟨u, hu, ht⟩ := andThen_eq_next.mp h2
  obtain ⟨-, rfl⟩ := writeBlk_cases hu
  simp only [drawn_seq, drawn_blk] at ht
  refine ⟨h1, ?_⟩
  split at ht <;> simp_all

theorem fIfy_cases (h : fIfy s = .next t) :
    1 ≤ s.rNat ∧ lastChunkAddr s.rNat < s.params.blkWords ∧
      t = (s.drawn.setIfy (s.blk.word .blk s.draws (lastChunkAddr s.rNat))).goto .finish := by
  obtain ⟨h1, h2, h3⟩ := withBlkLastWord_cases h
  exact ⟨h1, h2, by simpa using h3.symm⟩

theorem qInit_cases (h : qInit s = .next t) : t = ((s.setPass .fill).setI 0).goto .qSnap := by
  simpa [qInit] using h.symm

theorem qSnap_cases (h : qSnap s = .next t) :
    extent s.rNat ≤ s.params.blkWords ∧ slotAddr s.seq.i s.rNat + extent s.rNat ≤ s.params.vWords ∧
      t = (s.drawn.setV (s.v.writeRun (slotAddr s.seq.i s.rNat) (s.blk.run .blk s.draws 0 (extent s.rNat)).toList)).goto
        .mInit := by
  obtain ⟨h1, h2⟩ := withBlkRun_cases h
  obtain ⟨u, hu, ht⟩ := andThen_eq_next.mp h2
  obtain ⟨h3, rfl⟩ := writeV_cases hu
  exact ⟨by simpa using h1, by simpa using h3, by simpa using ht.symm⟩

theorem qNext_cases (h : qNext s = .next t) :
    (s.seq.pass = .fill ∧ s.seq.i + 1 < s.nNat ∧ t = (s.setI (s.seq.i + 1)).goto .qSnap) ∨
    (s.seq.pass = .fill ∧ s.seq.i + 1 = s.nNat ∧
      t = ((s.setPass .mix).setI 0).goto .qIdx) ∨
    (s.seq.pass = .mix ∧ s.seq.i + 1 < s.nNat ∧ t = (s.setI (s.seq.i + 1)).goto .qIdx) ∨
    (s.seq.pass = .mix ∧ s.seq.i + 1 = s.nNat ∧ t = (s.setI (s.seq.i + 1)).goto .finish) := by
  unfold qNext at h
  repeat' split at h
  all_goals simp_all

theorem qIdx_cases (h : qIdx s = .next t) :
    s.nNat ≠ 0 ∧ 1 ≤ s.rNat ∧ lastChunkAddr s.rNat < s.params.blkWords ∧
      t = ((s.drawn.setIfy (s.blk.word .blk s.draws (lastChunkAddr s.rNat))).setJ
        (BitVec.ofNat 32 (tableIndex (s.blk.word .blk s.draws (lastChunkAddr s.rNat)) s.nNat))).goto .qXor := by
  unfold qIdx at h
  split at h
  · simp at h
  · obtain ⟨h1, h2, h3⟩ := withBlkLastWord_cases h
    exact ⟨‹_›, h1, h2, by simpa using h3.symm⟩

theorem qXor_cases (h : qXor s = .next t) :
    extent s.rNat ≤ s.params.blkWords ∧ slotAddr s.j.toNat s.rNat + extent s.rNat ≤ s.params.vWords ∧
      t = (s.drawn.drawn.setBlk (s.blk.writeRun 0
        (xorRun (s.blk.run .blk s.draws 0 (extent s.rNat))
          (s.v.run .v (s.draws + 1) (slotAddr s.j.toNat s.rNat) (extent s.rNat))).toList)).goto .mInit := by
  obtain ⟨h1, h2⟩ := withBlkRun_cases h
  obtain ⟨h3, h4⟩ := withVRun_cases h2
  obtain ⟨u, hu, ht⟩ := andThen_eq_next.mp h4
  obtain ⟨-, rfl⟩ := writeBlk_cases hu
  exact ⟨by simpa using h1, by simpa using h3, by simpa using ht.symm⟩

theorem finishStep_cases (h : finishStep s = .next t) :
    t = (s.setSeq { s.seq with op := .none, ms := .idle }).setStatus s.status.finished := by
  simpa [finishStep] using h.symm

end Sys2Proof.Machine
end

