-- ==== Sys2Proof/Laws/PerInstr.lean ====
section
/-! SUPPORT. The encoding laws made instruction by instruction: the fields of a command's word are well formed, its
opcode-table row matches it, and it decodes to the command. -/

namespace Sys2Proof.Laws.Encoding

/-- What the encoding owes one command (R90, R91). -/
def Statement (i : Instr) : Prop :=
  (FormatC.ofWord (encode i)).wf = true ∧ tableDecode (encode i) = some i ∧ decode (encode i) = .ok i ∧ i.wf = true

theorem salsa : Statement .salsa := ⟨by decide, by decide, by decide, rfl⟩
theorem bmix : Statement .bmix := ⟨by decide, by decide, by decide, rfl⟩
theorem intfy : Statement .intfy := ⟨by decide, by decide, by decide, rfl⟩
theorem romix : Statement .romix := ⟨by decide, by decide, by decide, rfl⟩

end Sys2Proof.Laws.Encoding
end

