-- ==== Sys2Proof/Laws/Runs.lean ====
section
/-! SUPPORT. Runs of micro-steps and of steps: how they are put together, and that `steps` is the host's run. -/

namespace Sys2Proof.Machine

theorem microSteps_add (a b : Nat) (s : State) : microSteps (a + b) s = andThen (microSteps a s) (microSteps b) := by
  induction a generalizing s with
  | zero => simp [microSteps]
  | succ a ih =>
    rw [Nat.add_right_comm, microSteps, microSteps, andThen_assoc]
    exact congrArg _ (funext ih)

theorem steps_add (a b : Nat) (s : State) : steps (a + b) s = andThen (steps a s) (steps b) := by
  induction a generalizing s with
  | zero => simp [steps]
  | succ a ih =>
    rw [Nat.add_right_comm, steps, steps, andThen_assoc]
    exact congrArg _ (funext ih)

theorem hostRun_succ (M : Host.Core) (k : Nat) (s : M.State) : M.run (k+1) s = match M.step s with
    | .next s' => M.run k s'
    | .fault r => .fault r
    | .refused r => .refused r := rfl

theorem hostRun_next {M : Host.Core} (k : Nat) {s t : M.State} (h : M.step s = .next t) : M.run (k+1) s = M.run k t := by
  rw [hostRun_succ, h]

theorem run_eq_steps (count : Nat) (s : State) : Host.Core.run core count s = steps count s := by
  induction count generalizing s with
  | zero => rfl
  | succ count ih =>
    rw [show steps (count + 1) s = andThen (step s) (steps count) from rfl]
    cases h : step s with
    | next t => exact (hostRun_next (M := core) count h).trans (ih t)
    | fault f => exact (hostRun_succ core count s).trans (by rw [show core.step s = _ from h]; rfl)
    | refused q => exact (hostRun_succ core count s).trans (by rw [show core.step s = _ from h]; rfl)

/-- Once a command is accepted, it runs its micro-steps. -/
theorem commandAtomic_accepted {i : Instr} {count : Nat} {s : State} (hb : s.status.busy = false)
    (hc : checkInstr i s.rNat s.nNat s.params = .accepted) :
    commandAtomic i count s = microSteps count (accept i s) := by
  simp [commandAtomic, hb, hc]

theorem exec_eq_commandAtomic (i : Instr) (s : State) :
    exec i s = commandAtomic i (microStepCount i s.rNat s.nNat) s := by
  cases i <;> rfl

end Sys2Proof.Machine
end

