-- ==== Sys2Proof/Tests/Slice0.lean ====
section
/-! SUPPORT. Tests: expected values come from the tables and worked examples of spec/ (95_test_vectors.md, or the rule
named), and from the encodings of R90 and R91 written out by hand. After them, the witnesses: for each obligation with
hypotheses, concrete states and operands that meet all of them. -/

namespace Sys2Proof.Tests

open Sys2Proof.Machine

/-! ### Helpers -/

def zeroBank : Bank := Vector.replicate 16 0

/-- Word `k` is `k` (K16 of 95_test_vectors.md). -/
def countBank : Bank := Vector.ofFn fun k => BitVec.ofNat 32 k

/-- The block of `count` words whose word `k` is `k`. -/
def countWords (count : Nat) : Vector Word count := Vector.ofFn fun k => BitVec.ofNat 32 k

/-- Word 0 is 1, the others 0 (e0 of 95_test_vectors.md). -/
def e0 : Bank := zeroBank.set 0 1

/-- A memory whose word `k` is `k`, for `k` below `count` (K32, K64 of 95_test_vectors.md). -/
def countBlock (count : Nat) : Memory := (List.range count).map fun k => (k, BitVec.ofNat 32 k)

/-- An idle engine with R_MAX = 2 and V_WORDS = 96, the given R and N, and BLK as given. -/
def idle (r n : Word) (blk : Memory) : State where
  status := ⟨false, false, 0⟩
  r := r
  n := n
  ify := 0
  j := 0
  blk := blk
  xs := zeroBank
  inB := zeroBank
  b := zeroBank
  y := []
  v := []
  seq := ⟨.none, .idle, .fill, 0, 0, 0⟩
  params := ⟨1, 96⟩
  draws := 1
  agenda := []
  reply := none

/-- A busy engine with R = 1, N = 2 at the given position, all of BLK, Y and V written. -/
def running (q : SeqPos) : State :=
  { idle 1 2 (countBlock 64) with status := ⟨true, false, 0⟩, seq := q, y := countBlock 64, v := countBlock 96 }

/-- The given words of BLK, then IFY, J and the word of STATUS, in a next state. -/
def look (addrs : List Nat) : Result → List (Option Word) × List Word
  | .next t => (addrs.map t.blk.read?, [t.ify, t.j, t.status.word])
  | .fault _ => ([], [])
  | .refused _ => ([], [])

def isNext : Result → Bool
  | .next _ => true
  | .fault _ => false
  | .refused _ => false

/-! ### WellFormed: an ill-formed term for each check, which the check refuses -/

theorem smoke_zero_field : FormatC.zeroClear ⟨1, 4⟩ = false ∧ FormatC.wf ⟨1, 4⟩ = false := by decide
theorem smoke_opcode_below : FormatC.opcodeAssigned ⟨0, 0⟩ = false ∧ FormatC.wf ⟨0, 0⟩ = false := by decide
theorem smoke_opcode_above : FormatC.opcodeAssigned ⟨0, 5⟩ = false ∧ FormatC.wf ⟨0, 0xFF⟩ = false := by decide
theorem smoke_opcode_assigned : FormatC.wf ⟨0, 1⟩ = true ∧ FormatC.wf ⟨0, 4⟩ = true := by decide
theorem smoke_ldw_empty : ldwListOk [] = false ∧ (Stmt.ldw 0 []).wf = false ∧ (Stmt.ldw 0 [7]).wf = true := by decide
theorem smoke_ldb_empty : ldbListOk [] = false ∧ (Stmt.ldb 0 []).wf = false := by decide
theorem smoke_ldb_ragged : ldbListOk [1, 2, 3] = false ∧ (Stmt.ldb 0 [1, 2, 3, 4, 5]).wf = false := by decide

/-! ### Decode: each word bit by bit, ZERO (bits 31:8) then OPC (bits 7:0) -/

theorem test_decode_salsa : decode 0b000000000000000000000000_00000001 = .ok .salsa := by decide
theorem test_decode_bmix : decode 0b000000000000000000000000_00000010 = .ok .bmix := by decide
theorem test_decode_intfy : decode 0b000000000000000000000000_00000011 = .ok .intfy := by decide
theorem test_decode_romix : decode 0b000000000000000000000000_00000100 = .ok .romix := by decide
/-- E8 to E10, and the all-ones word of R92. -/
theorem test_decode_illegal : decode 0 = .error .opcode ∧ decode 5 = .error .opcode ∧
    decode 0x104 = .error .zeroField ∧ decode 0xFFFFFFFF = .error .zeroField := by decide
theorem test_table_word : decodeTableWord 32 4 = some .romix ∧ decodeTableWord 32 0x104 = none ∧
    decodeTableWord 8 0x104 = some .romix ∧ decodeTableWord 40 4 = none := by decide

/-! ### The Salsa20/8 engine -/

/-- W1 to W7. -/
theorem test_word_ops : addW 0xffffffff 1 = 0 ∧ addW 0x80000000 0x80000000 = 0 ∧ rotl 0x80000001 7 = 0xc0 ∧
    rotl 0x80000001 9 = 0x300 ∧ rotl 0x80000001 13 = 0x3000 ∧ rotl 0x80000001 18 = 0x60000 := by decide
/-- Q8, on the tuple (5, 9, 13, 1) of the column set. -/
theorem test_quarter_round :
    let y := quarterRound 5 9 13 1
      ((((zeroBank.set 5 0x01234567).set 9 0x89abcdef).set 13 0xfedcba98).set 1 0x76543210)
    (y[5], y[9], y[13], y[1]) = (0xe0b51acf, 0x32107654, 0x99abccfe, 0xfe3e6b67) := by decide
/-- RD1 and RD2. -/
theorem test_rounds :
    ((columnRound e0)[0], (columnRound e0)[4], (columnRound e0)[8], (columnRound e0)[12]) =
      (0x08008145, 0x80, 0x10200, 0x20500000) ∧
    ((rowRound e0)[0], (rowRound e0)[1], (rowRound e0)[2], (rowRound e0)[3]) =
      (0x08008145, 0x80, 0x10200, 0x20500000) := by decide
set_option maxRecDepth 10000 in
/-- RD3, the state after the first doubleround. -/
theorem test_double_round : (doubleRound e0).toList =
    [0x8186a22d, 0x0040a284, 0x82479210, 0x06929051, 0x08000090, 0x02402200, 0x00004000, 0x00800000,
     0x00010200, 0x20400000, 0x08008104, 0x00000000, 0x20500000, 0xa0000040, 0x0008180a, 0x612a8020] := by decide
set_option maxRecDepth 20000 in
/-- S1. -/
theorem test_salsa8 : (salsa8 e0).toList =
    [0x72e9e95a, 0x04699a37, 0xbfb11eb3, 0x0602a2c1, 0xdbf13a35, 0x0d7a354e, 0xf112ce59, 0x1fd868ad,
     0x27a5d9c1, 0xac70f0e6, 0x1312c6aa, 0xf3310c13, 0xd09b0450, 0x4984e0f9, 0x48108636, 0x930d4be4] := by decide

/-! ### The four commands, each as one transition -/

set_option maxRecDepth 20000 in
/-- S4. -/
theorem test_salsa : look [0, 1, 15, 16] (exec .salsa (idle 0 0 (countBlock 32))) =
    ([some 0x4fdd18f5, some 0xe08388b9, some 0x5d47fa5a, some 16], [0, 0, 2]) := by decide
set_option maxRecDepth 20000 in
/-- B3: the chunks at positions 0 to 3 are `x_0`, `x_2`, `x_1` and `x_3`. -/
theorem test_bmix : look [0, 16, 32, 48, 63] (exec .bmix (idle 2 0 (countBlock 64))) =
    ([some 0xcd9d59eb, some 0x0dddc04f, some 0xfc2910e7, some 0xc0b9f852, some 0x693fc0f4], [0, 0, 2]) := by decide
/-- I5: word `32r - 16 = 48`, unreduced; J stays. -/
theorem test_intfy : look [48] (exec .intfy (idle 2 4 ((countBlock 48).write 48 0x974431c3))) =
    ([some 0x974431c3], [0x974431c3, 0, 2]) := by decide
set_option maxRecDepth 20000 in
/-- M3, with word 32 outside the active extent: `n = 3`, the table filling V to its last word. -/
theorem test_romix : look [0, 16, 31, 32] (exec .romix (idle 1 3 (countBlock 33))) =
    ([some 0xb8532f36, some 0xa1f109d5, some 0xc69864b3, some 32], [0xb9259ea6, 0, 2]) := by decide

set_option maxRecDepth 20000 in
/-- B2, as the function. -/
theorem test_block_mix : (blockMix (r := 1) (countWords 32))[0] = 0xdb987384 ∧
    (blockMix (r := 1) (countWords 32))[16] = 0xf3d25a54 ∧
    (blockMix (r := 1) (countWords 32))[31] = 0x56bceb7c := by decide

/-- R154, the table of destinations. -/
theorem test_destinations : (List.range 2).map (dst · 1) = [0, 1] ∧ (List.range 4).map (dst · 2) = [0, 2, 1, 3] ∧
    (List.range 6).map (dst · 3) = [0, 3, 1, 4, 2, 5] ∧
    (List.range 8).map (dst · 4) = [0, 4, 1, 5, 2, 6, 3, 7] := by decide
/-- I1 to I4, I7. -/
theorem test_table_index : tableIndex 0x0510a964 16 = 4 ∧ tableIndex 0xffffffff 16 = 15 ∧
    tableIndex 0x8cdf5223 3 = 0 ∧ tableIndex 0xffffffff 3 = 0 ∧ tableIndex 0x80000000 0xffffffff = 0x80000000 := by
  decide
/-- I3 as a micro-step: Q_IDX writes both IFY and J. -/
theorem test_q_idx : look []
    (microStep { running ⟨.romix, .qIdx, .mix, 0, 0, 4⟩ with
      n := 3
      blk := [(16, 0x8cdf5223)]
      j := 9 }) = ([], [0x8cdf5223, 0, 1]) := by decide
/-- R178: Q_XOR takes slot J, here slot 1, words 32 to 63 of V. -/
theorem test_q_xor : look [0, 31, 32]
    (microStep { running ⟨.romix, .qXor, .mix, 0, 0, 4⟩ with j := 1 }) =
    ([some 0x20, some (31 ^^^ 63), some 32], [0, 1, 1]) := by decide

/-! ### Issue, rejection and host accesses -/

/-- E1, E2, E6, E4: the four parameter codes, with R_MAX = 2 and V_WORDS = 96. -/
theorem test_reject_codes :
    look [] (exec .romix (idle 0 0 [])) = ([], [0, 0, 0x10]) ∧
    look [] (exec .romix (idle 3 0 [])) = ([], [0, 0, 0x20]) ∧
    look [] (exec .bmix (idle 3 0 [])) = ([], [0, 0, 0x30]) ∧
    look [] (exec .romix (idle 1 4 [])) = ([], [0, 0, 0x40]) := by decide
/-- E8, E9: an illegal word. -/
theorem test_reject_illegal : look [] (commandMove 0x104 (idle 1 1 [])) = ([], [0, 0, 0x50]) := by decide
/-- R225: the product is over the naturals; modulo 2^32 it would be 0. -/
theorem test_product_not_wrapped : checkInstr .romix 2 0x80000000 ⟨1, 96⟩ = .resV := by decide
/-- R205: an accepted issue. -/
theorem test_accept : hostAccess (.wcsr 0 4) (idle 1 3 []) =
    { idle 1 3 [] with status := ⟨true, false, 0⟩, seq := ⟨.romix, .qInit, .fill, 0, 0, 0⟩ } := by decide
/-- E12: writes to read-only and reserved indices. -/
theorem test_ignored_writes : hostAccess (.wcsr 1 0xffffffff) (idle 1 1 []) = idle 1 1 [] ∧
    hostAccess (.wcsr 4 7) (idle 1 1 []) = idle 1 1 [] ∧ hostAccess (.wcsr 9 7) (idle 1 1 []) = idle 1 1 [] := by decide
/-- E13: out of range for BLK. -/
theorem test_out_of_range : hostAccess (.wblk 64 5) (idle 1 1 []) = idle 1 1 [] ∧
    (hostAccess (.rblk 64) (idle 1 1 [])).reply = some 0 := by decide
/-- E14: a write of N while busy. -/
theorem test_busy_write : hostAccess (.wcsr 3 9) (running ⟨.romix, .qSnap, .fill, 0, 0, 0⟩) =
    running ⟨.romix, .qSnap, .fill, 0, 0, 0⟩ := by decide
/-- R61: bytes `f7 ce 0b 65` are the word `0x650bcef7`. -/
theorem test_packing : packBytes [0xf7, 0xce, 0x0b, 0x65] = [0x650bcef7] ∧
    unpackWords [0x650bcef7] = [0xf7, 0xce, 0x0b, 0x65] := by decide
/-- E12, as statements: a CSR by name and by bare index. -/
theorem test_script_csr : expand (.wcsr (.named .ify) 7) = [.host (.wcsr 4 7)] ∧
    expand (.wcsr (.index 9) 7) = [.host (.wcsr 9 7)] ∧ expand (.rcsr (.index 9)) = [.host (.rcsr 9)] ∧
    (hostAccess (.rcsr 9) (idle 1 1 [])).reply = some 0 := by decide
/-- R97: `run SALSA` and `ldw 3, 8 9`. -/
theorem test_expansion : expand (.run .salsa) = [.host (.wcsr 0 1), .wait] ∧
    expand (.ldw 3 [8, 9]) = [.host (.wblk 3 8), .host (.wblk 4 9)] := by decide
/-- E0 and R250: what reset leaves, whatever ran. -/
theorem test_reset : State.reset.status.word = 0 ∧ State.reset.r = 0 ∧ State.reset.j = 0 ∧
    (resetEvent (running ⟨.romix, .qSnap, .fill, 0, 0, 0⟩)).status.word = 0 := by decide
set_option maxRecDepth 10000 in
/-- Right after reset every command's word is run as the next move. -/
theorem test_first_commands : isNext (step (State.reset.withFetchWord 32 1)) = true ∧
    look [] (step (State.reset.withFetchWord 32 2)) = ([], [0, 0, 0x10]) ∧
    look [] (step (State.reset.withFetchWord 32 3)) = ([], [0, 0, 0x10]) ∧
    look [] (step (State.reset.withFetchWord 32 4)) = ([], [0, 0, 0x10]) := by decide

/-! ### Witnesses: encoding and arithmetic -/

/-- Words at the edges of each clause. -/
theorem witness_IllegalWordsAreNamed : (0x100 : Word).toNat / 2 ^ 8 ≠ 0 ∧ (0 : Word).toNat = 0 ∧
    5 ≤ (0xFF : Word).toNat ∧ (0xFF : Word).toNat ≤ 0xFF ∧ (5 : Word) ≠ 1 ∧ (5 : Word) ≠ 2 ∧ (5 : Word) ≠ 3 ∧
    (5 : Word) ≠ 4 ∧ (idle 0 0 []).status.busy = false := by decide
theorem witness_AddAndXorFormulas : (31 : Nat) < 32 := by decide
theorem witness_RotateLeftFormula : (1 ≤ 1 ∧ 1 ≤ 31) ∧ (1 ≤ 31 ∧ 31 ≤ 31) ∧ 31 < 32 := by decide
theorem witness_QuarterRoundStatements : [(5 : Fin 16), 9, 13, 1].Nodup ∧ (0 : Fin 16) ∉ [5, 9, 13, 1] := by decide
theorem witness_QuarterRoundOrderInsideRoundIrrelevant :
    columnSet.reverse.Perm columnSet ∧ rowSet.reverse.Perm rowSet :=
  ⟨List.reverse_perm _, List.reverse_perm _⟩
theorem witness_EvaluationLeavesSalsa8InXs :
    ((running ⟨.salsa, .sLoad, .fill, 0, 0, 0⟩).seq.ms = .sLoad ∧
      (running ⟨.salsa, .sLoad, .fill, 0, 0, 0⟩).seq.op = .salsa) ∧
    ((running ⟨.bmix, .sLoad, .fill, 0, 1, 4⟩).seq.ms = .sLoad ∧
      (running ⟨.bmix, .sLoad, .fill, 0, 1, 4⟩).seq.op = .bmix) ∧
    ((running ⟨.romix, .sLoad, .mix, 1, 1, 4⟩).seq.ms = .sLoad ∧
      (running ⟨.romix, .sLoad, .mix, 1, 1, 4⟩).seq.op = .romix) := by decide
theorem witness_ChunkDestinationIsBijection : 0 < 2 * 1 ∧ 0 % 2 = 0 ∧ 5 < 2 * 3 ∧ 5 % 2 = 1 ∧ 1 < 2 * 1 ∧ 1 % 2 = 1 ∧
    dst 5 3 = dst 5 3 := by decide
theorem witness_ZeroBlockIsFixedPoint : 1 ≤ 1 ∧ 1 ≤ 3 := by decide
theorem witness_BlockMixChainsAndInterleaves : 0 < 2 * 1 ∧ 1 < 2 * 1 ∧ 5 < 2 * 3 ∧ 1 ≤ 1 := by decide
theorem witness_TableIndexIsTrueRemainder : 1 ≤ 1 ∧
    (0 : Word).toNat < 1 ∧ 0 ≤ 31 ∧ 1 = 2 ^ 0 ∧ 31 ≤ 31 ∧ 2147483648 = 2 ^ 31 := by decide
theorem witness_RoMixIsFillThenMix : 1 ≤ 1 ∧ 1 ≤ 3 := by decide
theorem witness_FillPassSnapshotsTrajectory : 0 < 1 ∧ 2 < 3 := by decide
theorem witness_LittleEndianPacking : ldbListOk [1, 2, 3, 4] = true ∧ 0 < (packBytes [1, 2, 3, 4]).length ∧ 3 < 4 ∧
    0 < [(0x650bcef7 : Word)].length := by decide
theorem witness_MemoryReadAfterWrite : 4 ≠ 3 ∧ (countBlock 3).wf ∧ (countBlock 3).within 4 ∧ 3 < 4 := by decide

/-! ### Witnesses: commands -/

/-- R and N at any values, and BLK words 0 to 15 written. -/
theorem witness_SalsaCompletes : (idle 0 0 (countBlock 16)).status.busy = false ∧
    (idle 0 0 (countBlock 16)).blk.read? (15 : Fin 16) = some 15 := by decide
/-- The three clauses (every `idle` engine has BUSY = 0): `R = 0`, `R = R_MAX + 1`, and `R = R_MAX` with the whole extent written. -/
theorem witness_BmixCompletes : (idle 0 0 []).rNat = 0 ∧ (idle 3 0 []).params.rMax < (idle 3 0 []).rNat ∧
    (let s := idle 2 0 (countBlock 64)
     s.status.busy = false ∧ 1 ≤ s.rNat ∧ s.rNat ≤ s.params.rMax ∧ s.blk.holds (countWords (32 * s.rNat))) := by
  decide
/-- The same three clauses, with the word `BLK[16]` of `R = 1` written. -/
theorem witness_IntfyCompletes : (idle 0 0 []).rNat = 0 ∧ (idle 3 0 []).params.rMax < (idle 3 0 []).rNat ∧
    (let s := idle 1 0 [(16, 7)]
     s.status.busy = false ∧ 1 ≤ s.rNat ∧ s.rNat ≤ s.params.rMax ∧ s.blk.read? (32 * s.rNat - 16) = some 7) := by
  decide
/-- The four rejections, each at the edge of its condition. -/
theorem witness_RomixCompletes_rejections : (idle 0 1 []).rNat = 0 ∧
    (1 ≤ (idle 1 0 []).rNat ∧ (idle 1 0 []).nNat = 0) ∧
    ((idle 3 1 []).params.rMax < (idle 3 1 []).rNat ∧ 1 ≤ (idle 3 1 []).nNat) ∧
    (1 ≤ (idle 1 4 []).rNat ∧ (idle 1 4 []).rNat ≤ (idle 1 4 []).params.rMax ∧
      (idle 1 4 []).params.vWords < (idle 1 4 []).nNat * 32 * (idle 1 4 []).rNat) := by decide
/-- The acceptance, with `N·32·R = V_WORDS` exactly. -/
theorem witness_RomixCompletes :
    let s := idle 1 3 (countBlock 32)
    s.status.busy = false ∧ 1 ≤ s.rNat ∧ s.rNat ≤ s.params.rMax ∧ 1 ≤ s.nNat ∧
      s.nNat * 32 * s.rNat ≤ s.params.vWords ∧ s.blk.holds (countWords (32 * s.rNat)) := by decide
/-- All four commands accepted while idle; the last count below each number of micro-steps. -/
theorem witness_MicroStepCountsAreExact :
    checkInstr .salsa (idle 0 0 []).rNat (idle 0 0 []).nNat (idle 0 0 []).params = .accepted ∧
    checkInstr .bmix (idle 2 0 []).rNat (idle 2 0 []).nNat (idle 2 0 []).params = .accepted ∧
    checkInstr .intfy (idle 1 0 []).rNat (idle 1 0 []).nNat (idle 1 0 []).params = .accepted ∧
    checkInstr .romix (idle 1 3 []).rNat (idle 1 3 []).nNat (idle 1 3 []).params = .accepted ∧
    8 < microStepCount .salsa 0 0 ∧ 34 < microStepCount .bmix 2 0 ∧ 1 < microStepCount .intfy 1 0 ∧
    124 < microStepCount .romix 1 3 := by decide
theorem witness_StepwiseRunAgreesWithAtomicCommand : (idle 1 3 []).status.busy = false ∧
    checkInstr .romix (idle 1 3 []).rNat (idle 1 3 []).nNat (idle 1 3 []).params = .accepted := by decide
/-- Two states that agree on what is visible and differ in XS, Y, V and SEQ, from which INTFY completes. -/
theorem witness_HiddenStateNeverInfluencesCommands :
    let s := idle 1 1 [(16, 7)]
    let s' := { s with
      xs := countBank
      y := [(0, 1)]
      v := [(0, 2)]
      seq := ⟨.none, .idle, .mix, 5, 6, 4⟩ }
    s ≠ s' ∧ s.status = s'.status ∧ s.r = s'.r ∧ s.n = s'.n ∧ s.ify = s'.ify ∧ s.j = s'.j ∧ s.blk = s'.blk ∧
      s.params = s'.params ∧ s.draws = s'.draws ∧ isNext (exec .intfy s) = true := by decide

/-! ### Witnesses: issue, rejection, host accesses -/

/-- A word for each code, at the edge of its condition. -/
theorem witness_CheckReportsFirstCondition : verdictCode (check 5 0 0 ⟨1, 96⟩) = 5 ∧
    verdictCode (check 3 0 0 ⟨1, 96⟩) = 1 ∧ verdictCode (check 4 3 0 ⟨1, 96⟩) = 2 ∧
    verdictCode (check 4 3 1 ⟨1, 96⟩) = 3 ∧ verdictCode (check 4 1 4 ⟨1, 96⟩) = 4 ∧
    verdictCode (check 4 1 3 ⟨1, 96⟩) = 0 ∧ verdictCode (check 1 0 0 ⟨1, 96⟩) = 0 := by decide
/-- An accepted issue of each command, and a rejected one. -/
theorem witness_CommandIssueIsOneAtomicStep :
    let s := idle 1 3 []
    s.status.busy = false ∧ check 1 s.r s.n s.params = .accepted ∧ check 2 s.r s.n s.params = .accepted ∧
      check 3 s.r s.n s.params = .accepted ∧ check 4 s.r s.n s.params = .accepted ∧
      check 5 s.r s.n s.params ≠ .accepted := by decide
theorem witness_RejectionChangesOnlyStatus : (idle 0 0 []).status.busy = false ∧
    checkInstr .bmix (idle 0 0 []).rNat (idle 0 0 []).nNat (idle 0 0 []).params ≠ .accepted ∧
    decode 5 = .error .opcode := by decide
theorem witness_CsrReadsReturn : (idle 1 1 []).status.busy = false ∧ 6 ≤ 6 ∧
    (running ⟨.romix, .qSnap, .fill, 0, 0, 0⟩).status.busy = true ∧ 0 ≠ 1 := by decide
theorem witness_CsrWritesStore : (idle 1 1 []).status.busy = false ∧ (1 = 1 ∨ 4 ≤ 1) ∧ (4 = 1 ∨ 4 ≤ 4) ∧
    (running ⟨.romix, .qSnap, .fill, 0, 0, 0⟩).status.busy = true := by decide
/-- The last address of BLK and the first outside. -/
theorem witness_BlkReadsAndWrites : (idle 1 1 (countBlock 64)).status.busy = false ∧
    63 < 32 * (idle 1 1 (countBlock 64)).params.rMax ∧ (idle 1 1 (countBlock 64)).blk.read? 63 = some 63 ∧ 32 * (idle 1 1 []).params.rMax ≤ 64 ∧
    (running ⟨.romix, .qSnap, .fill, 0, 0, 0⟩).status.busy = true := by decide
theorem witness_AccessesWhileBusyAreIgnored : (running ⟨.salsa, .sDr, .fill, 0, 0, 2⟩).status.busy = true := by decide
theorem witness_HostAccessesNeverRaise : (∀ w, Access.wblk 0 1 ≠ .wcsr 0 w) ∧
    (running ⟨.salsa, .sDr, .fill, 0, 0, 2⟩).status.busy = true := ⟨fun _ => by simp, by decide⟩
theorem witness_ProtocolAccessesAreDefined : keepsProtocol (running ⟨.salsa, .sDr, .fill, 0, 0, 2⟩) (.rcsr 1) = true ∧
    keepsProtocol (idle 0 0 []) (.rcsr 4) = true ∧ keepsProtocol (idle 0 0 []) (.wcsr 2 7) = true ∧
    keepsProtocol (idle 0 0 []) (.wcsr 3 7) = true := by decide
/-- The last two words of BLK. -/
theorem witness_LoadWordsWritesConsecutiveWords :
    let s := (idle 0 0 []).setAgenda (expand (.ldw 62 [8, 9]) ++ [.engine])
    s.status.busy = false ∧ 62 + [(8 : Word), 9].length ≤ s.params.blkWords ∧
      s.agenda = expand (.ldw 62 [8, 9]) ++ [.engine] := by decide

/-! ### Witnesses: the machine -/

theorem witness_StepRunsDecodedCommand : decode 4 = .ok .romix ∧ 32 ≤ 32 ∧ decodeTableWord 32 4 = some .romix ∧
    ((idle 0 0 []).setAgenda [.command 4]).agenda = [.command 4] ∧
    ((idle 0 0 []).setAgenda [.host (.rcsr 1)]).agenda = [.host (.rcsr 1)] ∧
    ((idle 0 0 []).setAgenda [.engine]).agenda = [.engine] ∧ (idle 0 0 []).agenda = [] := by decide
theorem witness_ResetEventAbandonsCommand :
    ((running ⟨.romix, .qSnap, .fill, 0, 0, 0⟩).setAgenda [.reset]).agenda = .reset :: [] := by decide

/-- Positions of every label, with the counters at the edges of the ranges that lead to different labels. -/
def positions : List SeqPos :=
  [⟨.none, .idle, .fill, 0, 0, 0⟩, ⟨.salsa, .kLoadX, .fill, 0, 0, 0⟩, ⟨.salsa, .sLoad, .fill, 0, 0, 0⟩,
   ⟨.salsa, .sDr, .fill, 0, 0, 0⟩, ⟨.salsa, .sDr, .fill, 0, 0, 3⟩, ⟨.salsa, .sFf, .fill, 0, 0, 4⟩,
   ⟨.bmix, .sFf, .fill, 0, 0, 4⟩, ⟨.salsa, .kStoreX, .fill, 0, 0, 4⟩, ⟨.bmix, .mInit, .fill, 0, 0, 0⟩] ++
  [⟨.bmix, .mXor, .fill, 0, 1, 0⟩, ⟨.bmix, .mStore, .fill, 0, 0, 4⟩, ⟨.bmix, .mStore, .fill, 0, 1, 4⟩,
   ⟨.bmix, .mCommit, .fill, 0, 2, 4⟩, ⟨.romix, .mCommit, .fill, 0, 2, 4⟩, ⟨.intfy, .fIfy, .fill, 0, 0, 0⟩,
   ⟨.romix, .qInit, .fill, 0, 0, 0⟩, ⟨.romix, .qSnap, .fill, 1, 0, 0⟩] ++
  [⟨.romix, .qNext, .fill, 0, 2, 4⟩, ⟨.romix, .qNext, .fill, 1, 2, 4⟩, ⟨.romix, .qNext, .mix, 0, 2, 4⟩,
   ⟨.romix, .qNext, .mix, 1, 2, 4⟩, ⟨.romix, .qIdx, .mix, 1, 2, 4⟩, ⟨.romix, .qXor, .mix, 1, 2, 4⟩,
   ⟨.romix, .finish, .mix, 2, 2, 4⟩]

set_option maxRecDepth 10000 in
theorem witness_SequencerFollowsTable : (positions.all fun q => isNext (microStep (running q))) = true := by decide
/-- The five storing micro-steps, then one of each other clause's kind. -/
theorem witness_MicroStepFrame :
    ([⟨.salsa, .kStoreX, .fill, 0, 0, 4⟩, ⟨.bmix, .mStore, .fill, 0, 1, 4⟩, ⟨.bmix, .mCommit, .fill, 0, 2, 4⟩,
      ⟨.romix, .qXor, .mix, 1, 2, 4⟩, ⟨.romix, .qSnap, .fill, 1, 0, 0⟩, ⟨.intfy, .fIfy, .fill, 0, 0, 0⟩,
      ⟨.salsa, .sDr, .fill, 0, 0, 3⟩, ⟨.romix, .finish, .mix, 2, 2, 4⟩] : List SeqPos).all
      (fun q => isNext (microStep (running q))) = true := by decide

theorem running_memories (q : SeqPos) : memoriesLegal (running q).blk (running q).y (running q).v (running q).params := by
  show memoriesLegal (countBlock 64) (countBlock 64) (countBlock 96) ⟨1, 96⟩
  unfold memoriesLegal
  decide

/-- A ROMIX at its last snapshot. -/
theorem legal_q_snap : LegalState (running ⟨.romix, .qSnap, .fill, 1, 0, 0⟩) :=
  ⟨.inr (.inl rfl), by decide, ⟨by unfold blockFits; decide, by unfold tableFits; decide,
    .inr (.inr ⟨by decide, .inl (by decide)⟩)⟩, running_memories _⟩
/-- A ROMIX about to read slot 1 of two. -/
theorem legal_q_xor : LegalState { running ⟨.romix, .qXor, .mix, 1, 2, 4⟩ with j := 1 } :=
  ⟨.inr (.inl rfl), by decide, ⟨by unfold blockFits; decide, by unfold tableFits; decide,
    .inr (.inr ⟨by decide, .inr (.inr (.inr (.inr (by decide))))⟩)⟩,
    running_memories ⟨.romix, .qXor, .mix, 1, 2, 4⟩⟩
/-- A BMIX about to commit. -/
theorem legal_m_commit : LegalState (running ⟨.bmix, .mCommit, .fill, 0, 2, 4⟩) :=
  ⟨.inr (.inl rfl), by decide, ⟨by unfold blockFits; decide, .inl (.inr (.inr (by decide)))⟩, running_memories _⟩

theorem written_q_xor : tableWritten { running ⟨.romix, .qXor, .mix, 1, 2, 4⟩ with j := 1 } ∧
    outputWritten { running ⟨.romix, .qXor, .mix, 1, 2, 4⟩ with j := 1 } := by
  constructor
  · intro _ _ _
    unfold writtenUpTo
    decide
  · intro _ h
    exact absurd h (by decide)
theorem written_m_commit : tableWritten (running ⟨.bmix, .mCommit, .fill, 0, 2, 4⟩) ∧
    outputWritten (running ⟨.bmix, .mCommit, .fill, 0, 2, 4⟩) := by
  constructor
  · intro h
    exact absurd h (by decide)
  · intro _ _
    decide

theorem witness_StepKeepsInvariant : LegalState (running ⟨.romix, .qSnap, .fill, 1, 0, 0⟩) ∧
    isNext (step (running ⟨.romix, .qSnap, .fill, 1, 0, 0⟩)) = true := ⟨legal_q_snap, by decide⟩
theorem witness_LegalStatesNeverStop : LegalState (running ⟨.bmix, .mCommit, .fill, 0, 2, 4⟩) := legal_m_commit
theorem witness_StepKeepsTableAndOutputWritten :
    let s := { running ⟨.romix, .qXor, .mix, 1, 2, 4⟩ with j := 1 }
    LegalState s ∧ tableWritten s ∧ outputWritten s ∧ isNext (step s) = true :=
  ⟨legal_q_xor, written_q_xor.1, written_q_xor.2, by decide⟩
/-- The two clauses: Q_XOR at the last slot, and M_COMMIT. -/
theorem witness_TableAndOutputReadOnlyWrittenWords :
    (let s := { running ⟨.romix, .qXor, .mix, 1, 2, 4⟩ with j := 1 }
     LegalState s ∧ tableWritten s ∧ outputWritten s ∧ s.seq.ms = .qXor ∧ 31 < 32 * s.rNat) ∧
    (let s := running ⟨.bmix, .mCommit, .fill, 0, 2, 4⟩
     LegalState s ∧ tableWritten s ∧ outputWritten s ∧ s.seq.ms = .mCommit ∧ 31 < 32 * s.rNat) :=
  ⟨⟨legal_q_xor, written_q_xor.1, written_q_xor.2, rfl, by decide⟩,
   ⟨legal_m_commit, written_m_commit.1, written_m_commit.2, rfl, by decide⟩⟩
/-- The fill pass and the mix pass. -/
theorem witness_RomixConfinesItsWrites :
    (LegalState (running ⟨.romix, .qSnap, .fill, 1, 0, 0⟩) ∧
      isNext (microStep (running ⟨.romix, .qSnap, .fill, 1, 0, 0⟩)) = true) ∧
    (let s := { running ⟨.romix, .qXor, .mix, 1, 2, 4⟩ with j := 1 }
     LegalState s ∧ s.seq.op = .romix ∧ s.seq.pass = .mix ∧ isNext (microStep s) = true) :=
  ⟨⟨legal_q_snap, by decide⟩, ⟨legal_q_xor, rfl, rfl, by decide⟩⟩
theorem witness_WaitTerminates :
    let s := (running ⟨.romix, .qSnap, .fill, 1, 0, 0⟩).setAgenda [.wait]
    LegalState s ∧ s.agenda = .wait :: [] := ⟨legal_q_snap, rfl⟩

end Sys2Proof.Tests
end

section
/-! PROOFS. The little-endian packing of R61: what the two conversions are as numbers, which byte or word stands at each
place of their results, and that they undo each other. -/

namespace Sys2Proof.Machine

/-! ### One word and its four bytes -/

theorem toNat_append_byte {w : Nat} (x : BitVec w) (b : Byte) : (x ++ b).toNat = 2 ^ 8 * x.toNat + b.toNat := by
  rw [BitVec.toNat_append, ← Nat.shiftLeft_add_eq_or_of_lt b.isLt, Nat.shiftLeft_eq, Nat.mul_comm]

theorem packWord_toNat (b0 b1 b2 b3 : Byte) :
    (packWord b0 b1 b2 b3).toNat =
      b0.toNat + 2 ^ 8 * b1.toNat + 2 ^ 16 * b2.toNat + 2 ^ 24 * b3.toNat := by
  have hnest : (packWord b0 b1 b2 b3).toNat =
      2 ^ 8 * (2 ^ 8 * (2 ^ 8 * b3.toNat + b2.toNat) + b1.toNat) + b0.toNat := by
    simp only [packWord, toNat_append_byte]
  omega

/-- Byte `m` as a number: the digit at `m` in base 256. -/
theorem byteOf_toNat (w : Word) (m : Nat) : (byteOf w m).toNat = w.toNat / 2 ^ (8 * m) % 2 ^ 8 := by
  rw [byteOf, BitVec.extractLsb'_toNat, Nat.shiftRight_eq_div_pow]

@[simp] theorem packWord_byteOf (w : Word) : packWord (byteOf w 0) (byteOf w 1) (byteOf w 2) (byteOf w 3) = w := by
  have hw := w.isLt
  simp only [← BitVec.toNat_inj, packWord_toNat, byteOf_toNat]
  omega

@[simp] theorem byteOf_packWord (b0 b1 b2 b3 : Byte) :
    byteOf (packWord b0 b1 b2 b3) 0 = b0 ∧ byteOf (packWord b0 b1 b2 b3) 1 = b1 ∧
    byteOf (packWord b0 b1 b2 b3) 2 = b2 ∧ byteOf (packWord b0 b1 b2 b3) 3 = b3 := by
  simp only [← BitVec.toNat_inj, byteOf_toNat, packWord_toNat]
  omega

/-! ### Unpacking a list of words -/

theorem unpackWords_getElem? (ws : List Word) {k m : Nat} (h : k < ws.length) (hm : m < 4) :
    (unpackWords ws)[4 * k + m]? = some (byteOf ws[k] m) := by
  induction ws generalizing k with
  | nil => simp at h
  | cons w ws ih =>
    cases k with
    | zero => interval_cases m <;> rfl
    | succ k =>
      have hk : k < ws.length := by simpa using h
      have hi : 4 * (k + 1) + m = 4 * k + m + 4 := by omega
      simpa [unpackWords, hi] using ih hk

theorem packBytes_unpackWords (ws : List Word) : packBytes (unpackWords ws) = ws := by
  induction ws with
  | nil => rfl
  | cons w ws ih => simp [unpackWords, packBytes, ih]

/-! ### Packing a list of bytes -/

theorem packBytes_getElem? (bs : List Byte) {k : Nat} (h : k < (packBytes bs).length) :
    (packBytes bs)[k]? = some (packWord (bs.getD (4 * k) 0) (bs.getD (4 * k + 1) 0)
      (bs.getD (4 * k + 2) 0) (bs.getD (4 * k + 3) 0)) := by
  fun_induction packBytes bs generalizing k with
  | case1 b0 b1 b2 b3 rest ih =>
    cases k with
    | zero => rfl
    | succ k =>
      have hk : k < (packBytes rest).length := by simpa using h
      simpa [Nat.mul_succ] using ih hk
  | case2 => simp at h

theorem unpackWords_packBytes {bs : List Byte} (h : bs.length % 4 = 0) : unpackWords (packBytes bs) = bs := by
  fun_induction packBytes bs with
  | case1 b0 b1 b2 b3 rest ih =>
    have hrest : rest.length % 4 = 0 := by simp only [List.length_cons] at h; omega
    simp [unpackWords, ih hrest]
  | case2 bs hshort =>
    match bs with
    | [] => rfl
    | [_] | [_, _] | [_, _, _] => simp at h
    | b0 :: b1 :: b2 :: b3 :: rest => exact absurd rfl (hshort b0 b1 b2 b3 rest)

theorem length_mod_four_of_ldbListOk {bs : List Byte} (h : ldbListOk bs = true) : bs.length % 4 = 0 := by
  rw [ldbListOk, Bool.and_eq_true, beq_iff_eq] at h
  exact h.2

/-! ### The statement -/

/-- Settles O34: the two conversions one place at a time, and each direction's round trip by its own recursion. -/
theorem littleEndianPacking : Obligations.LittleEndianPacking := by
  unfold Obligations.LittleEndianPacking
  refine ⟨packWord_toNat, fun ws => ⟨packBytes_unpackWords ws, fun k m h hm => unpackWords_getElem? ws h hm⟩,
    fun bs hok => ⟨?_, fun k h => packBytes_getElem? bs h⟩⟩
  exact unpackWords_packBytes (length_mod_four_of_ldbListOk hok)

end Sys2Proof.Machine
end

section
/-! PROOFS. The illegal command words of R92: the decoder's two errors as conditions on the word read as a number, and
what issuing a word that decodes to an error does. -/

namespace Sys2Proof.Machine

/-! ### The two fields of a word -/

theorem ofWord_zeroClear_iff (w : Word) : (FormatC.ofWord w).zeroClear = true ↔ w.toNat / 2 ^ 8 = 0 := by
  have hw := w.isLt
  simp only [FormatC.zeroClear, FormatC.ofWord, beq_iff_eq, ← BitVec.toNat_inj, BitVec.extractLsb'_toNat,
    Nat.shiftRight_eq_div_pow, BitVec.ofNat_eq_ofNat, BitVec.toNat_ofNat]
  omega

@[simp] theorem ofWord_opc_toNat (w : Word) : (FormatC.ofWord w).opc.toNat = w.toNat % 2 ^ 8 := by
  rw [FormatC.ofWord, BitVec.extractLsb'_toNat, Nat.shiftRight_zero]

theorem ofOpcode_eq_none_iff (opc : BitVec 8) : ofOpcode opc = none ↔ opc.toNat = 0 ∨ 5 ≤ opc.toNat := by
  have hassigned : ofOpcode opc = none ↔ opc ≠ 1 ∧ opc ≠ 2 ∧ opc ≠ 3 ∧ opc ≠ 4 := by
    simp only [ofOpcode, ite_eq_iff, reduceCtorEq]
    tauto
  rw [hassigned]
  bv_omega

/-! ### The decoder's errors -/

theorem decode_of_not_zeroClear {w : Word} (h : ¬ (FormatC.ofWord w).zeroClear = true) :
    decode w = .error .zeroField := if_neg h

theorem decode_of_zeroClear {w : Word} (h : (FormatC.ofWord w).zeroClear = true) :
    decode w = (ofOpcode (FormatC.ofWord w).opc).elim (.error .opcode) .ok := by
  rw [decode, if_pos h]
  cases ofOpcode (FormatC.ofWord w).opc <;> rfl

theorem decode_eq_zeroField_iff_zeroClear (w : Word) :
    decode w = .error .zeroField ↔ ¬ (FormatC.ofWord w).zeroClear = true := by
  refine ⟨fun h hclear => ?_, decode_of_not_zeroClear⟩
  rw [decode_of_zeroClear hclear] at h
  cases hopc : ofOpcode (FormatC.ofWord w).opc <;> simp [hopc] at h

theorem decode_eq_opcode_iff_ofOpcode (w : Word) :
    decode w = .error .opcode ↔
      (FormatC.ofWord w).zeroClear = true ∧ ofOpcode (FormatC.ofWord w).opc = none := by
  by_cases hclear : (FormatC.ofWord w).zeroClear = true
  · rw [decode_of_zeroClear hclear]
    cases ofOpcode (FormatC.ofWord w).opc <;> simp [hclear]
  · simp [decode_of_not_zeroClear hclear, hclear]

theorem decode_eq_zeroField_iff (w : Word) : decode w = .error .zeroField ↔ w.toNat / 2 ^ 8 ≠ 0 := by
  rw [decode_eq_zeroField_iff_zeroClear, ofWord_zeroClear_iff]

theorem decode_eq_opcode_iff (w : Word) :
    decode w = .error .opcode ↔ w.toNat = 0 ∨ (5 ≤ w.toNat ∧ w.toNat ≤ 0xFF) := by
  rw [decode_eq_opcode_iff_ofOpcode, ofWord_zeroClear_iff, ofOpcode_eq_none_iff, ofWord_opc_toNat]
  omega

/-- R92: a word that is none of the four of R91 is in the range of one of the two errors. -/
theorem exists_decode_eq_error {w : Word} (h1 : w ≠ 1) (h2 : w ≠ 2) (h3 : w ≠ 3) (h4 : w ≠ 4) :
    ∃ e, decode w = .error e := by
  by_cases hzero : w.toNat / 2 ^ 8 = 0
  · have hopc : w.toNat = 0 ∨ (5 ≤ w.toNat ∧ w.toNat ≤ 0xFF) := by bv_omega
    exact ⟨.opcode, (decode_eq_opcode_iff w).mpr hopc⟩
  · exact ⟨.zeroField, (decode_eq_zeroField_iff w).mpr hzero⟩

/-! ### Issuing an illegal word -/

theorem hostAccess_wcsr_cmd_of_idle {s : State} (hidle : s.status.busy = false) (w : Word) :
    hostAccess (.wcsr 0 w) s = issueIdle w s := by
  simp [hostAccess, writeCsr, csrOfIndex, hidle]

theorem issueIdle_of_decode_eq_error {w : Word} {e : Illegal} (h : decode w = .error e) (s : State) :
    issueIdle w s = reject .illCmd s := by
  simp [issueIdle, h]

theorem reject_eq (v : Verdict) (s : State) : reject v s = { s with status := ⟨false, false, verdictCode v⟩ } := rfl

/-! ### The statement -/

/-- Settles O2: the two errors as ranges of the word, and the rejection of a word in either range. -/
theorem illegalWordsAreNamed : Obligations.IllegalWordsAreNamed := by
  unfold Obligations.IllegalWordsAreNamed
  refine fun w => ⟨decode_eq_zeroField_iff w, decode_eq_opcode_iff w, fun h1 h2 h3 h4 s hidle => ?_⟩
  obtain ⟨e, he⟩ := exists_decode_eq_error h1 h2 h3 h4
  calc hostAccess (.wcsr 0 w) s
      = issueIdle w s := hostAccess_wcsr_cmd_of_idle hidle w
    _ = reject .illCmd s := issueIdle_of_decode_eq_error he s
    _ = { s with status := ⟨false, false, 5⟩ } := reject_eq .illCmd s

end Sys2Proof.Machine
end

section
/-! PROOFS. The word operations of R120 to R122 and the quarter-round of R123: the two halves of a rotation, and the
quarter-round as four statements of one form, each changing one word. -/

namespace Sys2Proof.Machine

/-! ### Addition and exclusive or -/

theorem addW_toNat (a b : Word) : (addW a b).toNat = (a.toNat + b.toNat) % 2 ^ 32 := BitVec.toNat_add a b

theorem xorW_getLsbD (a b : Word) (i : Nat) : (xorW a b).getLsbD i = true ↔ a.getLsbD i ≠ b.getLsbD i := by
  rw [xorW, BitVec.getLsbD_xor, bne_iff_ne]

/-- Settles O5: the sum and the exclusive or are those of the library's words. -/
theorem addAndXorFormulas : Obligations.AddAndXorFormulas := by
  unfold Obligations.AddAndXorFormulas
  exact fun a b => ⟨addW_toNat a b, fun i _ => xorW_getLsbD a b i⟩

/-! ### Rotation -/

/-- The bits that a left shift by `c` keeps stand at `c` and up, so adding the bits that come round below `c`
carries nothing. -/
theorem rotl_toNat (a : Word) {c : Nat} (hc : c ≤ 31) :
    (rotl a c).toNat = (a.toNat * 2 ^ c) % 2 ^ 32 + a.toNat / 2 ^ (32 - c) := by
  have hsplit : 2 ^ 32 = 2 ^ (32 - c) * 2 ^ c := by
    rw [← Nat.pow_add, Nat.sub_add_cancel (by omega)]
  have hlow : a.toNat / 2 ^ (32 - c) < 2 ^ c := Nat.div_lt_of_lt_mul (hsplit ▸ a.isLt)
  have hhigh : (a.toNat * 2 ^ c) % 2 ^ 32 = (a.toNat % 2 ^ (32 - c)) <<< c := by
    rw [hsplit, Nat.mul_mod_mul_right, Nat.shiftLeft_eq]
  rw [rotl, BitVec.toNat_rotateLeft, Nat.mod_eq_of_lt (by omega : c < 32), Nat.shiftLeft_eq,
    Nat.shiftRight_eq_div_pow, hhigh, Nat.shiftLeft_add_eq_or_of_lt hlow]

/-- A bit moves up by `c`, or, when that leaves the word, to where it comes in again below `c`. -/
theorem rotl_getLsbD (a : Word) {c i : Nat} (hc : c ≤ 31) (hi : i < 32) :
    (rotl a c).getLsbD ((i + c) % 32) = a.getLsbD i := by
  rw [rotl, BitVec.getLsbD_rotateLeft_of_le (by omega)]
  by_cases hwrap : i + c < 32
  · rw [Nat.mod_eq_of_lt hwrap]
    simp [hwrap]
  · have hmod : (i + c) % 32 = i + c - 32 := by omega
    have hfrom : 32 - c + (i + c - 32) = i := by omega
    have hbelow : i + c - 32 < c := by omega
    simp [hmod, hfrom, hbelow]

/-- Settles O6: the formula, and the place of each bit. -/
theorem rotateLeftFormula : Obligations.RotateLeftFormula := by
  unfold Obligations.RotateLeftFormula
  exact fun a c _ hc => ⟨rotl_toNat a hc, fun i hi => rotl_getLsbD a hc hi⟩

/-! ### The quarter-round -/

/-- R123: the four statements of a quarter-round, each in the form of R126. -/
theorem quarterRound_eq_xorRotate (a b c d : Fin 16) (x : Bank) :
    quarterRound a b c d x =
      [(b, a, d, 7), (c, b, a, 9), (d, c, b, 13), (a, d, c, 18)].foldl Claims.xorRotate x := rfl

theorem getElem_xorRotate_same (x : Bank) (k p q : Fin 16) (n : Nat) :
    (Claims.xorRotate x (k, p, q, n))[k] = x[k] ^^^ rotl (x[p] + x[q]) n := Vector.getElem_set_self _

theorem getElem_xorRotate_other (x : Bank) {k j : Fin 16} (h : j ≠ k) (p q : Fin 16) (n : Nat) :
    (Claims.xorRotate x (k, p, q, n))[j] = x[j] :=
  Vector.getElem_set_ne _ _ fun e => h (Fin.ext e.symm)

/-- Settles O7: each word is read off after the four statements, the one that sets it and those that leave it. -/
theorem quarterRoundStatements : Obligations.QuarterRoundStatements := by
  unfold Obligations.QuarterRoundStatements
  intro a b c d x hnodup
  obtain ⟨⟨hab, hac, had⟩, ⟨hbc, hbd⟩, hcd⟩ :
      (a ≠ b ∧ a ≠ c ∧ a ≠ d) ∧ (b ≠ c ∧ b ≠ d) ∧ c ≠ d := by simpa using hnodup
  simp only [quarterRound_eq_xorRotate, List.foldl_cons, List.foldl_nil]
  refine ⟨?_, ?_, ?_, ?_, fun k hk => ?_⟩
  case refine_5 =>
    obtain ⟨hka, hkb, hkc, hkd⟩ : k ≠ a ∧ k ≠ b ∧ k ≠ c ∧ k ≠ d := by simpa using hk
    simp only [getElem_xorRotate_other, ne_eq, not_false_eq_true, hka, hkb, hkc, hkd]
  all_goals
    simp only [getElem_xorRotate_same, getElem_xorRotate_other, ne_eq, not_false_eq_true, hab, hac, had, hbc, hbd,
      hcd, hab.symm, hac.symm, had.symm, hbc.symm, hbd.symm, hcd.symm]

end Sys2Proof.Machine
end

section
/-! PROOFS. Runs through listed labels (R183): how they are put together, and that a whole accepted command (R184) is
its run through its labels. -/

namespace Sys2Proof.Machine

/-! ### Labels and micro-steps in a row -/

theorem microSteps_succ_of_next {s u : State} (h : microStep s = .next u) (count : Nat) :
    microSteps (count + 1) s = microSteps count u := by
  rw [microSteps, h, andThen_next]

theorem runsThrough_cons {l : MicroLabel} {ls : List MicroLabel} {s u t : State} (hms : s.seq.ms = l)
    (hbusy : s.status.busy = true) (hstep : microStep s = .next u) (hrest : Claims.runsThrough ls u t) :
    Claims.runsThrough (l :: ls) s t := ⟨hms, hbusy, u, hstep, hrest⟩

theorem runsThrough_append {ls ls' : List MicroLabel} {s u t : State} (h : Claims.runsThrough ls s u)
    (h' : Claims.runsThrough ls' u t) : Claims.runsThrough (ls ++ ls') s t := by
  induction ls generalizing s with
  | nil => obtain rfl : s = u := h; exact h'
  | cons l ls ih =>
    obtain ⟨hms, hbusy, v, hstep, hrest⟩ := h
    exact runsThrough_cons hms hbusy hstep (ih hrest)

/-- A run through labels is a run of as many micro-steps. -/
theorem microSteps_of_runsThrough {ls : List MicroLabel} {s t : State} (h : Claims.runsThrough ls s t) :
    microSteps ls.length s = .next t := by
  induction ls generalizing s with
  | nil => obtain rfl : s = t := h; rfl
  | cons l ls ih =>
    obtain ⟨-, -, u, hstep, hrest⟩ := h
    rw [List.length_cons, microSteps_succ_of_next hstep, ih hrest]

/-! ### A whole command is its run through its labels -/

theorem length_blockMixLabels (r : Nat) : (Claims.blockMixLabels r).length = 16 * r + 2 := by
  have hchunk : Claims.chunkLabels.length = 8 := rfl
  simp only [Claims.blockMixLabels, List.length_append, List.length_cons, List.length_flatten, List.map_replicate,
    List.sum_replicate, hchunk, List.length_nil, smul_eq_mul]
  omega

/-- R185: a command has as many labels as it takes micro-steps. -/
theorem length_labels (i : Instr) (r n : Nat) : (Claims.labels i r n).length = microStepCount i r n := by
  cases i with
  | salsa => rfl
  | bmix => simp [Claims.labels, microStepCount, length_blockMixLabels]
  | intfy => rfl
  | romix =>
    simp only [Claims.labels, microStepCount, List.length_append, List.length_cons, List.length_flatten,
      List.map_replicate, List.sum_replicate, length_blockMixLabels, List.length_nil, smul_eq_mul]
    ring

theorem exec_of_carriesOut {i : Instr} {s t : State} (hidle : s.status.busy = false)
    (hcheck : checkInstr i s.rNat s.nNat s.params = .accepted) (h : Claims.carriesOut i s t) :
    exec i s = .next t := by
  rw [exec_eq_commandAtomic, commandAtomic_accepted hidle hcheck, ← length_labels]
  exact microSteps_of_runsThrough h

end Sys2Proof.Machine
end

section
/-! PROOFS. One Salsa20/8 evaluation (R128 to R131): the function Salsa8 word by word, and the six micro-steps that
leave it in XS, from every state at S_LOAD. -/

namespace Sys2Proof.Machine

/-! ### The function -/

@[simp] theorem getElem_addBank (x y : Bank) {k : Nat} (h : k < 16) : (addBank x y)[k] = addW x[k] y[k] := by
  simp [addBank]

theorem getElem_salsa8 (x : Bank) (k : Fin 16) : (salsa8 x)[k] = x[k] + (doubleRound^[4] x)[k] :=
  getElem_addBank x (doubleRound^[4] x) k.isLt

/-- One statement of a quarter-round adds, rotates and combines zeros only. -/
theorem xorRotate_zero (p : Fin 16 × Fin 16 × Fin 16 × Nat) :
    Claims.xorRotate (Vector.replicate 16 0) p = Vector.replicate 16 0 := by
  have hrotl : rotl 0#32 p.2.2.2 = 0#32 := by simp [rotl, BitVec.rotateLeft_def]
  simp [Claims.xorRotate, hrotl]

theorem quarterRound_zero (a b c d : Fin 16) :
    quarterRound a b c d (Vector.replicate 16 0) = Vector.replicate 16 0 := by
  simp only [quarterRound_eq_xorRotate, List.foldl_cons, List.foldl_nil, xorRotate_zero]

theorem quarterRounds_cons (a b c d : Fin 16) (ts : List (Fin 16 × Fin 16 × Fin 16 × Fin 16)) (x : Bank) :
    quarterRounds ((a, b, c, d) :: ts) x = quarterRounds ts (quarterRound a b c d x) := rfl

theorem quarterRounds_zero (ts : List (Fin 16 × Fin 16 × Fin 16 × Fin 16)) :
    quarterRounds ts (Vector.replicate 16 0) = Vector.replicate 16 0 := by
  induction ts with
  | nil => rfl
  | cons p ts ih =>
    obtain ⟨a, b, c, d⟩ := p
    rw [quarterRounds_cons, quarterRound_zero, ih]

theorem doubleRound_zero : doubleRound (Vector.replicate 16 0) = Vector.replicate 16 0 := by
  rw [doubleRound, columnRound, rowRound, quarterRounds_zero, quarterRounds_zero]

theorem salsa8_zero : salsa8 (Vector.replicate 16 0) = Vector.replicate 16 0 := by
  simp only [salsa8, doubleRound_zero]
  exact Vector.ext fun k hk => by simp [addW]

/-! ### The six micro-steps -/

/-- The label after S_FF (R130). -/
def labelAfterEvaluation (op : Op) : MicroLabel := if op = .salsa then .kStoreX else .mStore

/-- The state that S_LOAD and `k` doublerounds lead to from `s`. -/
def State.afterDoubleRounds (s : State) (k : Nat) : State :=
  (((s.setInB s.xs).setB (doubleRound^[k] s.xs)).setD k).goto (if k < 4 then .sDr else .sFf)

/-- The state that a whole evaluation leads to from `s`. -/
def State.evaluated (s : State) : State :=
  ((s.afterDoubleRounds 4).setXs (salsa8 s.xs)).goto (labelAfterEvaluation s.seq.op)

section
variable {s : State}

/-! The state after an evaluation, field by field; by `simp`, since `rfl` would compute Salsa8. -/

@[simp] theorem evaluated_xs : s.evaluated.xs = salsa8 s.xs := by simp [State.evaluated, State.afterDoubleRounds]
@[simp] theorem evaluated_inB : s.evaluated.inB = s.xs := by simp [State.evaluated, State.afterDoubleRounds]
@[simp] theorem evaluated_status : s.evaluated.status = s.status := by simp [State.evaluated, State.afterDoubleRounds]
@[simp] theorem evaluated_r : s.evaluated.r = s.r := by simp [State.evaluated, State.afterDoubleRounds]
@[simp] theorem evaluated_n : s.evaluated.n = s.n := by simp [State.evaluated, State.afterDoubleRounds]
@[simp] theorem evaluated_ify : s.evaluated.ify = s.ify := by simp [State.evaluated, State.afterDoubleRounds]
@[simp] theorem evaluated_j : s.evaluated.j = s.j := by simp [State.evaluated, State.afterDoubleRounds]
@[simp] theorem evaluated_blk : s.evaluated.blk = s.blk := by simp [State.evaluated, State.afterDoubleRounds]
@[simp] theorem evaluated_y : s.evaluated.y = s.y := by simp [State.evaluated, State.afterDoubleRounds]
@[simp] theorem evaluated_v : s.evaluated.v = s.v := by simp [State.evaluated, State.afterDoubleRounds]
@[simp] theorem evaluated_params : s.evaluated.params = s.params := by simp [State.evaluated, State.afterDoubleRounds]
@[simp] theorem evaluated_draws : s.evaluated.draws = s.draws := by simp [State.evaluated, State.afterDoubleRounds]
@[simp] theorem evaluated_agenda : s.evaluated.agenda = s.agenda := by simp [State.evaluated, State.afterDoubleRounds]
@[simp] theorem evaluated_reply : s.evaluated.reply = s.reply := by simp [State.evaluated, State.afterDoubleRounds]
@[simp] theorem evaluated_seq_op : s.evaluated.seq.op = s.seq.op := by simp [State.evaluated, State.afterDoubleRounds]
@[simp] theorem evaluated_seq_pass : s.evaluated.seq.pass = s.seq.pass := by
  simp [State.evaluated, State.afterDoubleRounds]
@[simp] theorem evaluated_seq_i : s.evaluated.seq.i = s.seq.i := by simp [State.evaluated, State.afterDoubleRounds]
@[simp] theorem evaluated_seq_c : s.evaluated.seq.c = s.seq.c := by simp [State.evaluated, State.afterDoubleRounds]
@[simp] theorem evaluated_seq_d : s.evaluated.seq.d = 4 := by simp [State.evaluated, State.afterDoubleRounds]
@[simp] theorem evaluated_seq_ms : s.evaluated.seq.ms = labelAfterEvaluation s.seq.op := by
  simp [State.evaluated, State.afterDoubleRounds]

theorem microStep_sLoad (hms : s.seq.ms = .sLoad) : microStep s = .next (s.afterDoubleRounds 0) := by
  rw [microStep, hms]
  rfl

/-- One more doubleround works on the bank and the counter that those before it have left. -/
theorem afterDoubleRounds_succ (s : State) (k : Nat) :
    s.afterDoubleRounds (k + 1) =
      (((s.afterDoubleRounds k).setB (doubleRound (s.afterDoubleRounds k).b)).setD
        ((s.afterDoubleRounds k).seq.d + 1)).goto (if k + 1 < 4 then .sDr else .sFf) := by
  rw [State.afterDoubleRounds, Function.iterate_succ_apply']
  rfl

theorem microStep_afterDoubleRounds {k : Nat} (hk : k < 4) :
    microStep (s.afterDoubleRounds k) = .next (s.afterDoubleRounds (k + 1)) := by
  have hms : (s.afterDoubleRounds k).seq.ms = .sDr := if_pos hk
  have hround : microStep (s.afterDoubleRounds k) = sDr (s.afterDoubleRounds k) := by rw [microStep, hms]
  have hd : (s.afterDoubleRounds k).seq.d = k := rfl
  rw [hround, sDr, afterDoubleRounds_succ, hd]
  by_cases hlast : k + 1 < 4
  · rw [if_pos hlast, if_pos hlast]
  · rw [if_neg hlast, if_neg hlast, if_pos (by omega : k + 1 = 4)]

theorem microStep_afterFourDoubleRounds (hop : s.seq.op = .salsa ∨ s.seq.op = .bmix ∨ s.seq.op = .romix) :
    microStep (s.afterDoubleRounds 4) = .next s.evaluated := by
  have hff : microStep (s.afterDoubleRounds 4) = sFf (s.afterDoubleRounds 4) := rfl
  have hsum : addBank (s.afterDoubleRounds 4).inB (s.afterDoubleRounds 4).b = salsa8 s.xs := rfl
  have hkeep : (s.afterDoubleRounds 4).seq.op = s.seq.op := rfl
  rw [hff, sFf, hkeep, hsum, State.evaluated, labelAfterEvaluation]
  rcases hop with hop | hop | hop <;> rw [hop] <;> rfl

/-- Six micro-steps carry out an evaluation (R131), whether or not BUSY is set. -/
theorem microSteps_evaluation (hms : s.seq.ms = .sLoad)
    (hop : s.seq.op = .salsa ∨ s.seq.op = .bmix ∨ s.seq.op = .romix) :
    microSteps 6 s = .next s.evaluated := by
  have hround {k : Nat} (hk : k < 4) := microSteps_succ_of_next (microStep_afterDoubleRounds (s := s) hk)
  rw [microSteps_succ_of_next (microStep_sLoad hms), hround (by decide), hround (by decide), hround (by decide),
    hround (by decide), microSteps_succ_of_next (microStep_afterFourDoubleRounds hop)]
  rfl

/-- A busy engine at S_LOAD passes through the labels of an evaluation. -/
theorem runsThrough_evaluation (hms : s.seq.ms = .sLoad) (hbusy : s.status.busy = true)
    (hop : s.seq.op = .salsa ∨ s.seq.op = .bmix ∨ s.seq.op = .romix) :
    Claims.runsThrough Claims.evaluationLabels s s.evaluated := by
  have hround {k : Nat} (hk : k < 4) {ls : List MicroLabel} {t : State}
      (hrest : Claims.runsThrough ls (s.afterDoubleRounds (k + 1)) t) :
      Claims.runsThrough (.sDr :: ls) (s.afterDoubleRounds k) t :=
    runsThrough_cons (if_pos hk) hbusy (microStep_afterDoubleRounds hk) hrest
  refine runsThrough_cons hms hbusy (microStep_sLoad hms) ?_
  refine hround (by decide) <| hround (by decide) <| hround (by decide) <| hround (by decide) ?_
  exact runsThrough_cons rfl hbusy (microStep_afterFourDoubleRounds hop) rfl

end

/-! ### The statement -/

/-- Settles O10: the function's two facts, and the state after an evaluation, field by field. -/
theorem evaluationLeavesSalsa8InXs : Obligations.EvaluationLeavesSalsa8InXs := by
  unfold Obligations.EvaluationLeavesSalsa8InXs
  refine ⟨getElem_salsa8, salsa8_zero, fun s hms hop => ⟨s.evaluated, microSteps_evaluation hms hop, ?_⟩⟩
  simp [Claims.hostFieldsKept, labelAfterEvaluation]

end Sys2Proof.Machine
end

section
/-! PROOFS. The command SALSA (R132): the micro-steps before and after the evaluation, the run through its labels, its
result and its frame. -/

namespace Sys2Proof.Machine

/-! ### The micro-steps around the evaluation -/

/-- The state that K_LOADX leads to (R133). -/
def State.blockLoaded (s : State) : State := (s.drawn.setXs (s.blk.run .blk s.draws 0 16)).goto .sLoad

/-- The state that K_STOREX leads to (R134). -/
def State.blockStored (s : State) : State := (s.setBlk (s.blk.writeRun 0 s.xs.toList)).goto .finish

/-- The state that FINISH leads to (R180). -/
def State.finished (s : State) : State :=
  (s.setSeq { s.seq with op := .none, ms := .idle }).setStatus s.status.finished

section
variable {s : State}

/-- R8: BLK holds at least one block of 16 words. -/
theorem sixteen_le_blkWords (p : Params) : 16 ≤ p.blkWords := by
  unfold Params.blkWords Params.rMax
  omega

theorem microStep_kLoadX (hms : s.seq.ms = .kLoadX) : microStep s = .next s.blockLoaded := by
  have hload : microStep s = kLoadX s := by rw [microStep, hms]
  have hin : 0 + 16 ≤ s.params.blkWords := sixteen_le_blkWords s.params
  rw [hload, kLoadX, withBlkRun_inside hin, State.blockLoaded]

theorem microStep_kStoreX (hms : s.seq.ms = .kStoreX) : microStep s = .next s.blockStored := by
  have hstore : microStep s = kStoreX s := by rw [microStep, hms]
  rw [hstore, kStoreX, writeBlk_inside (sixteen_le_blkWords s.params), andThen_next, State.blockStored]

theorem microStep_finish (hms : s.seq.ms = .finish) : microStep s = .next s.finished := by
  rw [microStep, hms, finishStep, State.finished]

end

/-! ### The command -/

/-- The state that SALSA, accepted in `s`, leads to. -/
def State.salsaDone (s : State) : State := (accept .salsa s).blockLoaded.evaluated.blockStored.finished

theorem salsa_carriesOut (s : State) : Claims.carriesOut .salsa s s.salsaDone := by
  have hop : (accept .salsa s).blockLoaded.seq.op = .salsa := rfl
  refine runsThrough_cons rfl rfl (microStep_kLoadX rfl) ?_
  refine runsThrough_append (runsThrough_evaluation rfl rfl (.inl hop)) ?_
  have hms : (accept .salsa s).blockLoaded.evaluated.seq.ms = .kStoreX := by simp [hop, labelAfterEvaluation]
  have hbusy : (accept .salsa s).blockLoaded.evaluated.status.busy = true := by rw [evaluated_status]; rfl
  exact runsThrough_cons hms hbusy (microStep_kStoreX hms) (runsThrough_cons rfl hbusy (microStep_finish rfl) rfl)

theorem salsaDone_blk (s : State) :
    s.salsaDone.blk = s.blk.writeRun 0 (salsa8 (s.blk.run .blk s.draws 0 16)).toList := by
  simp [State.salsaDone, State.finished, State.blockStored, State.blockLoaded]

/-- The block that SALSA reads has the words written there, and SALSA stores Salsa8 of it. -/
theorem salsaDone_result (s : State) :
    ∃ x : Bank, (∀ (k : Fin 16) (w : Word), s.blk.read? k = some w → x[k] = w) ∧
      s.salsaDone.blk.holds (salsa8 x) := by
  refine ⟨s.blk.run .blk s.draws 0 16, fun k w hw => ?_, ?_⟩
  · rw [Fin.getElem_fin, getElem_run, Nat.zero_add]
    exact word_of_read? hw .blk s.draws
  · rw [salsaDone_blk]
    exact holds_writeRun s.blk _

theorem salsaDone_keptOutside (s : State) : Claims.keptOutside s.blk s.salsaDone.blk 0 16 := by
  intro a ha
  rw [salsaDone_blk]
  exact read?_writeRun_outside s.blk _ (by simpa using ha)

theorem salsaDone_completed (s : State) : Claims.completed s.salsaDone := by
  refine ⟨?_, rfl, rfl⟩
  simp [State.salsaDone, State.finished, State.blockStored, State.blockLoaded, Status.finished, Status.running]

theorem salsaDone_frame (s : State) :
    s.salsaDone.y = s.y ∧ s.salsaDone.v = s.v ∧ s.salsaDone.ify = s.ify ∧ s.salsaDone.j = s.j ∧
      Claims.hostFieldsKept s s.salsaDone := by
  simp [Claims.hostFieldsKept, State.salsaDone, State.finished, State.blockStored, State.blockLoaded]

/-- Settles O17: SALSA is accepted without a check, runs through its labels, and stores Salsa8 of the block it read. -/
theorem salsaCompletes : Obligations.SalsaCompletes := by
  unfold Obligations.SalsaCompletes
  intro s hidle
  have hrun : Claims.carriesOut .salsa s s.salsaDone := salsa_carriesOut s
  exact ⟨rfl, s.salsaDone, exec_of_carriesOut hidle rfl hrun, hrun, salsaDone_completed s, salsaDone_result s,
    salsaDone_keptOutside s, salsaDone_frame s⟩

end Sys2Proof.Machine
end

section
/-! PROOFS. The function BlockMix chunk by chunk (R157), and chunks of a memory: which of them a write of one chunk
changes, and that a memory holds a block when it holds the block's chunks. -/

namespace Sys2Proof.Machine

variable {r : Nat}

/-! ### The running state and the placement -/

/-- R157: the running state that iteration `i` starts from: the last chunk of the block, then what the iteration before
has left. -/
def runningState (hr : 1 ≤ r) (b : Block r) : (i : Nat) → i ≤ 2 * r → Bank
  | 0, _ => chunkOf b (2 * r - 1) (by omega)
  | i + 1, h => mixState b i h

theorem mixState_eq_salsa8 (hr : 1 ≤ r) (b : Block r) {i : Nat} (h : i < 2 * r) :
    mixState b i h = salsa8 (xorRun (runningState hr b i h.le) (chunkOf b i h)) := by
  cases i with
  | zero => rw [mixState_zero, runningState]
  | succ i => rw [mixState_succ, runningState]

/-- R154, R157: the interleaved placement puts what iteration `i` leaves at chunk `dst(i, r)` of the output. -/
theorem chunkOf_blockMix_dst (b : Block r) {i : Nat} (h : i < 2 * r) :
    chunkOf (blockMix b) (dst i r) (dst_lt h) = mixState b i h :=
  Vector.ext fun k hk => by
    have hchunk : (chunkAddr (dst i r) + k) / 16 = dst i r := by unfold chunkAddr; omega
    have hword : (chunkAddr (dst i r) + k) % 16 = k := by unfold chunkAddr; omega
    simp only [getElem_chunkOf _ _ hk, getElem_blockMix, hchunk, hword, dstInverse_dst h]

/-- The last iteration's result is the last chunk of the output. -/
theorem dst_last (hr : 1 ≤ r) : dst (2 * r - 1) r = 2 * r - 1 := by
  unfold dst
  split <;> omega

/-- Settles O13: chunk `dst(i, r)` of the output is the running state after iteration `i`, for `i` and for the iteration
before it. -/
theorem blockMixChainsAndInterleaves : Obligations.BlockMixChainsAndInterleaves := by
  unfold Obligations.BlockMixChainsAndInterleaves
  intro r b
  refine ⟨Vector.length_toList, fun i h => ⟨dst_lt h, dst_lt (by omega), ?_⟩, dst_last⟩
  rw [chunkOf_blockMix_dst b h]
  cases i with
  | zero => rw [mixState_zero, if_pos rfl]
  | succ i =>
    have hprev : chunkOf (blockMix b) (dst i r) (dst_lt (by omega)) = mixState b i (by omega) :=
      chunkOf_blockMix_dst b (by omega)
    rw [mixState_succ, if_neg i.succ_ne_zero, ← hprev]
    rfl

/-! ### Chunks in a memory -/

/-- The 16 words of chunk `c` of the memory have all been written, and are those of `x`. -/
def Memory.holdsChunk (m : Memory) (c : Nat) (x : Bank) : Prop :=
  ∀ k (h : k < 16), m.read? (chunkAddr c + k) = some x[k]

variable {m : Memory}

theorem lastChunkAddr_eq (r : Nat) : lastChunkAddr r = chunkAddr (2 * r - 1) := by
  unfold lastChunkAddr chunkAddr
  omega

theorem run_of_holdsChunk {c : Nat} {x : Bank} (h : m.holdsChunk c x) (src : Source) (draw : Nat) :
    m.run src draw (chunkAddr c) 16 = x :=
  Vector.ext fun k hk => by
    rw [getElem_run]
    exact word_of_read? (h k hk) src draw

theorem holdsChunk_writeRun_same (m : Memory) (c : Nat) (x : Bank) :
    (m.writeRun (chunkAddr c) x.toList).holdsChunk c x := fun k hk => by
  rw [read?_writeRun_inside m _ _ (by simpa using hk), Vector.getElem_toList]

theorem holdsChunk_writeRun_other {c d : Nat} {x : Bank} (h : m.holdsChunk c x) (hne : c ≠ d) (y : Bank) :
    (m.writeRun (chunkAddr d) y.toList).holdsChunk c x := fun k hk => by
  rw [read?_writeRun_outside, h k hk]
  simp only [Vector.length_toList, chunkAddr]
  omega

theorem holdsChunk_of_holds {b : Block r} (h : m.holds b) {i : Nat} (hi : i < 2 * r) :
    m.holdsChunk i (chunkOf b i hi) := fun k hk => by
  rw [getElem_chunkOf b hi hk]
  exact h _ _

/-- A block's words are those of its chunks. -/
theorem holds_of_holdsChunk {b : Block r} (h : ∀ i (hi : i < 2 * r), m.holdsChunk i (chunkOf b i hi)) :
    m.holds b := fun k hk => by
  have hword : chunkAddr (k / 16) + k % 16 = k := by unfold chunkAddr; omega
  have hread := h (k / 16) (by omega) (k % 16) (by omega)
  simpa only [getElem_chunkOf, hword] using hread

/-- A memory holds BlockMix of a block when what each iteration leaves stands at its destination. -/
theorem holds_blockMix {b : Block r} (h : ∀ i (hi : i < 2 * r), m.holdsChunk (dst i r) (mixState b i hi)) :
    m.holds (blockMix b) := holds_of_holdsChunk fun p hp => by
  have hat := h (dstInverse p r) (dstInverse_lt hp)
  rw [← chunkOf_blockMix_dst b (dstInverse_lt hp)] at hat
  simpa only [dst_dstInverse] using hat

end Sys2Proof.Machine
end

section
/-! PROOFS. The micro-steps of a BlockMix (R151 to R156), for the two commands that have them, BMIX and ROMIX: the state
each leads to, and the invariant that holds after each chunk of the `2r`. -/

namespace Sys2Proof.Machine

/-! ### The state each micro-step leads to -/

/-- The state that M_INIT leads to (R151). -/
def State.lastChunkLoaded (s : State) : State :=
  ((s.drawn.setXs (s.blk.run .blk s.draws (lastChunkAddr s.rNat) 16)).setC 0).goto .mXor

/-- The state that M_XOR leads to (R152). -/
def State.chunkXored (s : State) : State :=
  (s.drawn.setXs (xorRun s.xs (s.blk.run .blk s.draws (chunkAddr s.seq.c) 16))).goto .sLoad

/-- The state that M_STORE leads to (R155). -/
def State.chunkStored (s : State) : State :=
  ((s.setY (s.y.writeRun (chunkAddr (dst s.seq.c s.rNat)) s.xs.toList)).setC (s.seq.c + 1)).goto
    (if s.seq.c + 1 < 2 * s.rNat then .mXor else .mCommit)

/-- The state that the eight micro-steps of one chunk lead to (R158). -/
def State.chunkMixed (s : State) : State := s.chunkXored.evaluated.chunkStored

/-- The state that M_COMMIT leads to (R156). -/
def State.mixCommitted (s : State) : State :=
  (s.drawn.setBlk (s.blk.writeRun 0 (s.y.run .y s.draws 0 (extent s.rNat)).toList)).goto
    (if s.seq.op = .bmix then .finish else .qNext)

section
variable {s t : State} {c : Nat}

@[simp] theorem evaluated_rNat : s.evaluated.rNat = s.rNat := congrArg BitVec.toNat evaluated_r

theorem chunk_inside {r c : Nat} {p : Params} (hmax : r ≤ p.rMax) (hc : c < 2 * r) :
    chunkAddr c + 16 ≤ p.blkWords := by
  unfold chunkAddr Params.blkWords
  omega

theorem extent_inside {r : Nat} {p : Params} (hmax : r ≤ p.rMax) : extent r ≤ p.blkWords :=
  Nat.mul_le_mul_left 32 hmax

theorem microStep_mInit (hms : s.seq.ms = .mInit) (hfits : blockFits s.rNat s.params) :
    microStep s = .next s.lastChunkLoaded := by
  obtain ⟨hr, hmax⟩ := hfits
  have hinit : microStep s = mInit s := by rw [microStep, hms]
  have hin : lastChunkAddr s.rNat + 16 ≤ s.params.blkWords := by
    rw [lastChunkAddr_eq]
    exact chunk_inside hmax (by omega)
  rw [hinit, mInit, if_neg (by omega), withBlkRun_inside hin, State.lastChunkLoaded]

theorem microStep_mXor (hms : s.seq.ms = .mXor) (hmax : s.rNat ≤ s.params.rMax) (hc : s.seq.c < 2 * s.rNat) :
    microStep s = .next s.chunkXored := by
  have hxor : microStep s = mXor s := by rw [microStep, hms]
  rw [hxor, mXor, withBlkRun_inside (chunk_inside hmax hc), drawn_xs, State.chunkXored]

theorem microStep_mStore (hms : s.seq.ms = .mStore) (hmax : s.rNat ≤ s.params.rMax) (hc : s.seq.c < 2 * s.rNat) :
    microStep s = .next s.chunkStored := by
  have hstore : microStep s = mStore s := by rw [microStep, hms]
  rw [hstore, mStore, writeY_inside (chunk_inside hmax (dst_lt hc)), andThen_next, State.chunkStored]
  by_cases hlast : s.seq.c + 1 < 2 * s.rNat
  · rw [if_pos hlast, if_pos hlast]
  · rw [if_neg hlast, if_neg hlast, if_pos (by omega : s.seq.c + 1 = 2 * s.rNat)]

theorem microStep_mCommit (hms : s.seq.ms = .mCommit) (hmax : s.rNat ≤ s.params.rMax)
    (hop : s.seq.op = .bmix ∨ s.seq.op = .romix) : microStep s = .next s.mixCommitted := by
  have hcommit : microStep s = mCommit s := by rw [microStep, hms]
  have hin : extent s.rNat ≤ s.params.blkWords := extent_inside hmax
  rw [hcommit, mCommit, withYRun_inside hin, writeBlk_inside (s := s.drawn) hin, andThen_next, drawn_seq,
    State.mixCommitted]
  rcases hop with hop | hop <;> rw [hop] <;> rfl

/-- A busy engine at M_XOR passes through the labels of a chunk. -/
theorem runsThrough_chunk (hms : s.seq.ms = .mXor) (hbusy : s.status.busy = true) (hmax : s.rNat ≤ s.params.rMax)
    (hc : s.seq.c < 2 * s.rNat) (hop : s.seq.op = .bmix ∨ s.seq.op = .romix) :
    Claims.runsThrough Claims.chunkLabels s s.chunkMixed := by
  have hxored : microStep s = .next s.chunkXored := microStep_mXor hms hmax hc
  have heval : Claims.runsThrough Claims.evaluationLabels s.chunkXored s.chunkXored.evaluated :=
    runsThrough_evaluation rfl hbusy (.inr hop)
  have hstore : s.chunkXored.evaluated.seq.ms = .mStore := by
    rcases hop with hop | hop <;> simp [State.chunkXored, labelAfterEvaluation, hop]
  have hstored : microStep s.chunkXored.evaluated = .next s.chunkMixed :=
    microStep_mStore hstore (by simpa [State.chunkXored] using hmax) (by simpa [State.chunkXored] using hc)
  have hbusy' : s.chunkXored.evaluated.status.busy = true := by rwa [evaluated_status]
  exact runsThrough_cons hms hbusy hxored (runsThrough_append heval (runsThrough_cons hstore hbusy' hstored rfl))

/-! ### What a BlockMix leaves alone -/

/-- Everything that no micro-step of a BlockMix changes agrees in `s` and `t`. -/
structure AgreesOutsideMix (s t : State) : Prop where
  status : t.status = s.status
  r : t.r = s.r
  n : t.n = s.n
  ify : t.ify = s.ify
  j : t.j = s.j
  v : t.v = s.v
  params : t.params = s.params
  agenda : t.agenda = s.agenda
  reply : t.reply = s.reply
  op : t.seq.op = s.seq.op
  pass : t.seq.pass = s.seq.pass
  i : t.seq.i = s.seq.i

theorem AgreesOutsideMix.trans {u : State} (h : AgreesOutsideMix s t) (h' : AgreesOutsideMix t u) :
    AgreesOutsideMix s u where
  status := h'.status.trans h.status
  r := h'.r.trans h.r
  n := h'.n.trans h.n
  ify := h'.ify.trans h.ify
  j := h'.j.trans h.j
  v := h'.v.trans h.v
  params := h'.params.trans h.params
  agenda := h'.agenda.trans h.agenda
  reply := h'.reply.trans h.reply
  op := h'.op.trans h.op
  pass := h'.pass.trans h.pass
  i := h'.i.trans h.i

theorem AgreesOutsideMix.rNat (h : AgreesOutsideMix s t) : t.rNat = s.rNat := congrArg BitVec.toNat h.r

theorem agreesOutsideMix_lastChunkLoaded (s : State) : AgreesOutsideMix s s.lastChunkLoaded := by
  constructor <;> simp [State.lastChunkLoaded]

theorem agreesOutsideMix_chunkMixed (s : State) : AgreesOutsideMix s s.chunkMixed := by
  constructor <;> simp [State.chunkMixed, State.chunkStored, State.chunkXored]

theorem agreesOutsideMix_mixCommitted (s : State) : AgreesOutsideMix s s.mixCommitted := by
  constructor <;> rfl

/-! ### The state after one chunk -/

theorem chunkMixed_blk (s : State) : s.chunkMixed.blk = s.blk := by
  simp [State.chunkMixed, State.chunkStored, State.chunkXored]

theorem chunkMixed_seq_c (s : State) : s.chunkMixed.seq.c = s.seq.c + 1 := by
  simp [State.chunkMixed, State.chunkStored, State.chunkXored]

theorem chunkMixed_seq_ms (s : State) :
    s.chunkMixed.seq.ms = if s.seq.c + 1 < 2 * s.rNat then .mXor else .mCommit := by
  simp [State.chunkMixed, State.chunkStored, State.chunkXored]

theorem chunkMixed_xs (s : State) :
    s.chunkMixed.xs = salsa8 (xorRun s.xs (s.blk.run .blk s.draws (chunkAddr s.seq.c) 16)) := by
  simp [State.chunkMixed, State.chunkStored, State.chunkXored]

theorem chunkMixed_y (s : State) :
    s.chunkMixed.y = s.y.writeRun (chunkAddr (dst s.seq.c s.rNat)) s.chunkMixed.xs.toList := by
  simp [State.chunkMixed, State.chunkStored, State.chunkXored]

/-! ### The invariant -/

/-- The BlockMix that begins at M_INIT in `s` has mixed `c` chunks when it is in `t`: BLK is as it was; of Y only words
below `32r` have been written; and where the active extent of BLK holds `b`, XS is the running state of BlockMix on `b`,
and Y has what each of the `c` iterations left. -/
structure BlockMixing (s : State) (c : Nat) (t : State) : Prop extends AgreesOutsideMix s t where
  blk : t.blk = s.blk
  counter : t.seq.c = c
  label : t.seq.ms = if c < 2 * s.rNat then .mXor else .mCommit
  yOutside : Claims.keptOutside s.y t.y 0 (32 * s.rNat)
  running : ∀ (hr : 1 ≤ s.rNat) (hc : c ≤ 2 * s.rNat) (b : Block s.rNat), s.blk.holds b →
    t.xs = runningState hr b c hc
  stored : ∀ b : Block s.rNat, s.blk.holds b → ∀ i (hi : i < 2 * s.rNat), i < c →
    t.y.holdsChunk (dst i s.rNat) (mixState b i hi)

theorem blockMixing_lastChunkLoaded (hr : 1 ≤ s.rNat) : BlockMixing s 0 s.lastChunkLoaded where
  toAgreesOutsideMix := agreesOutsideMix_lastChunkLoaded s
  blk := by simp [State.lastChunkLoaded]
  counter := by simp [State.lastChunkLoaded]
  label := by rw [if_pos (by omega), State.lastChunkLoaded, goto_seq_ms]
  yOutside _ _ := by simp [State.lastChunkLoaded]
  running _ _ b hb := by
    have hlast : s.lastChunkLoaded.xs = s.blk.run .blk s.draws (lastChunkAddr s.rNat) 16 := by
      simp [State.lastChunkLoaded]
    rw [hlast, lastChunkAddr_eq, runningState]
    exact run_of_holdsChunk (holdsChunk_of_holds hb _) .blk s.draws
  stored _ _ _ _ h := absurd h (Nat.not_lt_zero _)

/-- The eight micro-steps of chunk `c` leave iteration `c`'s running state in XS. -/
theorem BlockMixing.chunkMixed_xs_eq (h : BlockMixing s c t) (hc : c < 2 * s.rNat) {b : Block s.rNat}
    (hb : s.blk.holds b) : t.chunkMixed.xs = mixState b c hc := by
  have hr : 1 ≤ s.rNat := by omega
  have hread : t.blk.run .blk t.draws (chunkAddr t.seq.c) 16 = chunkOf b c hc := by
    rw [h.blk, h.counter]
    exact run_of_holdsChunk (holdsChunk_of_holds hb hc) .blk t.draws
  rw [chunkMixed_xs, hread, h.running hr hc.le b hb, mixState_eq_salsa8 hr b hc]

theorem BlockMixing.chunkMixed_y_eq (h : BlockMixing s c t) :
    t.chunkMixed.y = t.y.writeRun (chunkAddr (dst c s.rNat)) t.chunkMixed.xs.toList := by
  rw [chunkMixed_y, h.counter, h.rNat]

/-- Distinct iterations store at distinct chunks (R160), so a chunk's store keeps those before it. -/
theorem BlockMixing.succ (h : BlockMixing s c t) (hc : c < 2 * s.rNat) : BlockMixing s (c + 1) t.chunkMixed where
  toAgreesOutsideMix := h.toAgreesOutsideMix.trans (agreesOutsideMix_chunkMixed t)
  blk := (chunkMixed_blk t).trans h.blk
  counter := by rw [chunkMixed_seq_c, h.counter]
  label := by rw [chunkMixed_seq_ms, h.counter, h.rNat]
  yOutside a ha := by
    have hdst : dst c s.rNat < 2 * s.rNat := dst_lt hc
    rw [h.chunkMixed_y_eq, read?_writeRun_outside, h.yOutside a ha]
    simp only [Vector.length_toList, chunkAddr]
    omega
  running _ _ b hb := h.chunkMixed_xs_eq hc hb
  stored b hb i hi hic := by
    rw [h.chunkMixed_y_eq]
    by_cases hlast : i = c
    · subst hlast
      rw [h.chunkMixed_xs_eq hc hb]
      exact holdsChunk_writeRun_same t.y _ _
    · have hne : dst i s.rNat ≠ dst c s.rNat := fun heq =>
        hlast (by rw [← dstInverse_dst hi, heq, dstInverse_dst hc])
      exact holdsChunk_writeRun_other (h.stored b hb i hi (by omega)) hne _

/-! ### A whole BlockMix -/

/-- The BlockMix that begins at M_INIT in `s` has left M_COMMIT and is in `t`. -/
structure BlockMixed (s t : State) : Prop extends AgreesOutsideMix s t where
  label : t.seq.ms = if s.seq.op = .bmix then .finish else .qNext
  yOutside : Claims.keptOutside s.y t.y 0 (32 * s.rNat)
  blkOutside : Claims.keptOutside s.blk t.blk 0 (32 * s.rNat)
  result : ∀ b : Block s.rNat, s.blk.holds b → t.blk.holds (blockMix b)

/-- After all chunks Y holds BlockMix of the block, and M_COMMIT copies it to BLK. -/
theorem BlockMixing.mixCommitted (h : BlockMixing s (2 * s.rNat) t) : BlockMixed s t.mixCommitted where
  toAgreesOutsideMix := h.toAgreesOutsideMix.trans (agreesOutsideMix_mixCommitted t)
  label := by rw [← h.op]; rfl
  yOutside := h.yOutside
  blkOutside a ha := by
    have hblk : t.mixCommitted.blk = t.blk.writeRun 0 (t.y.run .y t.draws 0 (extent t.rNat)).toList := rfl
    rw [hblk, read?_writeRun_outside, h.blk]
    rwa [Vector.length_toList, h.rNat]
  result b hb := by
    have hy : t.y.holds (blockMix b) := holds_blockMix fun i hi => h.stored b hb i hi hi
    have hblk : t.mixCommitted.blk = t.blk.writeRun 0 (t.y.run .y t.draws 0 (32 * s.rNat)).toList := by
      rw [← h.rNat]; rfl
    rw [hblk, run_of_holds hy]
    exact holds_writeRun t.blk _

/-- From M_INIT and through `c` chunks, the engine keeps the invariant. -/
theorem exists_runsThrough_chunks (hbusy : s.status.busy = true) (hfits : blockFits s.rNat s.params)
    (hop : s.seq.op = .bmix ∨ s.seq.op = .romix) (hc : c ≤ 2 * s.rNat) :
    ∃ t, Claims.runsThrough (List.replicate c Claims.chunkLabels).flatten s.lastChunkLoaded t ∧
      BlockMixing s c t := by
  obtain ⟨hr, hmax⟩ := hfits
  induction c with
  | zero => exact ⟨s.lastChunkLoaded, rfl, blockMixing_lastChunkLoaded hr⟩
  | succ c ih =>
    obtain ⟨t, hrun, ht⟩ := ih (by omega)
    have hchunk : Claims.runsThrough Claims.chunkLabels t t.chunkMixed :=
      runsThrough_chunk (ht.label.trans (if_pos hc)) (ht.status ▸ hbusy) (by rwa [ht.rNat, ht.params])
        (by rwa [ht.counter, ht.rNat]) (ht.op ▸ hop)
    rw [List.replicate_succ', List.flatten_concat]
    exact ⟨t.chunkMixed, runsThrough_append hrun hchunk, ht.succ hc⟩

/-- A busy engine at M_INIT, with a block that fits, passes through the labels of a BlockMix (R158, R175) and has then
mixed the block. -/
theorem exists_runsThrough_blockMix (hms : s.seq.ms = .mInit) (hbusy : s.status.busy = true)
    (hfits : blockFits s.rNat s.params) (hop : s.seq.op = .bmix ∨ s.seq.op = .romix) :
    ∃ t, Claims.runsThrough (Claims.blockMixLabels s.rNat) s t ∧ BlockMixed s t := by
  obtain ⟨t, hrun, ht⟩ := exists_runsThrough_chunks hbusy hfits hop le_rfl
  have hcommit : t.seq.ms = .mCommit := ht.label.trans (if_neg (lt_irrefl _))
  have hcommitted : microStep t = .next t.mixCommitted :=
    microStep_mCommit hcommit (by rw [ht.rNat, ht.params]; exact hfits.2) (ht.op ▸ hop)
  refine ⟨t.mixCommitted, ?_, ht.mixCommitted⟩
  refine runsThrough_append (runsThrough_cons hms hbusy (microStep_mInit hms hfits) hrun) ?_
  exact runsThrough_cons hcommit (ht.status ▸ hbusy) hcommitted rfl

end

end Sys2Proof.Machine
end

section
/-! PROOFS. The command BMIX (R158): its rejections, its run through its labels, its result and its frame. -/

namespace Sys2Proof.Machine

/-- R228: a command that its check does not accept is rejected, and nothing else happens. -/
theorem exec_of_check_ne_accepted {i : Instr} {s : State} {v : Verdict} (hidle : s.status.busy = false)
    (hcheck : checkInstr i s.rNat s.nNat s.params = v) (hv : v ≠ .accepted) : exec i s = .next (reject v s) := by
  rw [exec_eq_commandAtomic, commandAtomic, hidle, hcheck]
  cases v with
  | accepted => exact absurd rfl hv
  | _ => rfl

/-! ### The check (R222, R224) -/

theorem checkInstr_bmix_zero (n : Nat) (p : Params) : checkInstr .bmix 0 n p = .paramR := rfl

theorem checkInstr_bmix_tooLarge {r : Nat} (n : Nat) {p : Params} (h : p.rMax < r) :
    checkInstr .bmix r n p = .resBlk := by
  rw [checkInstr, if_neg (by omega), if_pos h]

theorem checkInstr_bmix_fits {r : Nat} (n : Nat) {p : Params} (h : blockFits r p) :
    checkInstr .bmix r n p = .accepted := by
  obtain ⟨hr, hmax⟩ := h
  rw [checkInstr, if_neg (by omega), if_neg (by omega)]

/-! ### The run -/

theorem exists_bmix_carriesOut {s : State} (hfits : blockFits s.rNat s.params) :
    ∃ t, BlockMixed (accept .bmix s) t ∧ Claims.carriesOut .bmix s t.finished := by
  obtain ⟨t, hrun, ht⟩ := exists_runsThrough_blockMix (s := accept .bmix s) rfl rfl hfits (.inl rfl)
  have hfinish : t.seq.ms = .finish := ht.label
  have hbusy : t.status.busy = true := by rw [ht.status]; rfl
  exact ⟨t, ht, runsThrough_append hrun (runsThrough_cons hfinish hbusy (microStep_finish hfinish) rfl)⟩

/-- Settles O18: the check decides which of the three clauses applies; an accepted BMIX is one BlockMix, then FINISH. -/
theorem bmixCompletes : Obligations.BmixCompletes := by
  unfold Obligations.BmixCompletes
  intro s hidle
  refine ⟨fun hzero => ?_, fun hlarge => ?_, fun hr hmax => ?_⟩
  · exact exec_of_check_ne_accepted hidle (hzero ▸ checkInstr_bmix_zero s.nNat s.params) (by decide)
  · exact exec_of_check_ne_accepted hidle (checkInstr_bmix_tooLarge s.nNat hlarge) (by decide)
  · have hfits : blockFits s.rNat s.params := ⟨hr, hmax⟩
    obtain ⟨t, ht, hrun⟩ := exists_bmix_carriesOut hfits
    have hstatus : t.finished.status = ⟨false, true, 0⟩ := congrArg Status.finished ht.status
    exact ⟨rfl, t.finished, exec_of_carriesOut hidle (checkInstr_bmix_fits s.nNat hfits) hrun, hrun,
      ⟨hstatus, rfl, rfl⟩, ht.result, ht.blkOutside, ht.yOutside, ht.v, ht.ify, ht.j,
      ht.r, ht.n, ht.params, ht.agenda, ht.reply⟩

end Sys2Proof.Machine
end

section
/-! PROOFS. Integerify and the table index (R170, R172), and the command INTFY (R171): its rejections, its run through
its labels, the word it extracts and its frame. -/

namespace Sys2Proof.Machine

/-! ### Integerify and the table index -/

theorem exists_eq_mul_add_tableIndex (w : Word) (n : Nat) : ∃ q, w.toNat = q * n + tableIndex w n :=
  ⟨w.toNat / n, (Nat.div_add_mod' w.toNat n).symm⟩

/-- R172: modulo a power of two the remainder is a field of low bits. -/
theorem tableIndex_two_pow (w : Word) (m : Nat) : tableIndex w (2 ^ m) = (w.extractLsb' 0 m).toNat := by
  rw [tableIndex, BitVec.extractLsb'_toNat, Nat.shiftRight_zero]

/-- Settles O14: Integerify by its definition, the index by the laws of the remainder. -/
theorem tableIndexIsTrueRemainder : Obligations.TableIndexIsTrueRemainder := by
  unfold Obligations.TableIndexIsTrueRemainder
  refine ⟨fun r hr b => rfl, fun w n hn => ⟨tableIndex_lt w hn, Nat.mod_eq_of_lt, exists_eq_mul_add_tableIndex w n, ?_⟩⟩
  rintro m - rfl
  exact tableIndex_two_pow w m

/-! ### The micro-step F_IFY -/

/-- The word that F_IFY and Q_IDX read (R171, R177). -/
def State.lastWord (s : State) : Word := s.blk.word .blk s.draws (lastChunkAddr s.rNat)

/-- The state that F_IFY leads to (R171). -/
def State.lastWordExtracted (s : State) : State := (s.drawn.setIfy s.lastWord).goto .finish

theorem lastChunkAddr_inside {r : Nat} {p : Params} (h : blockFits r p) : lastChunkAddr r < p.blkWords := by
  obtain ⟨hr, hmax⟩ := h
  unfold lastChunkAddr Params.blkWords
  omega

theorem microStep_fIfy {s : State} (hms : s.seq.ms = .fIfy) (hfits : blockFits s.rNat s.params) :
    microStep s = .next s.lastWordExtracted := by
  have hify : microStep s = fIfy s := by rw [microStep, hms]
  rw [hify, fIfy, withBlkLastWord_inside hfits.1 (lastChunkAddr_inside hfits), State.lastWordExtracted,
    State.lastWord]

/-! ### The command -/

/-- INTFY is checked as BMIX is (R227). -/
theorem checkInstr_intfy_eq_bmix (r n : Nat) (p : Params) : checkInstr .intfy r n p = checkInstr .bmix r n p := rfl

/-- The state that INTFY, accepted in `s`, leads to. -/
def State.intfyDone (s : State) : State := (accept .intfy s).lastWordExtracted.finished

theorem intfy_carriesOut {s : State} (hfits : blockFits s.rNat s.params) :
    Claims.carriesOut .intfy s s.intfyDone :=
  runsThrough_cons rfl rfl (microStep_fIfy rfl hfits) (runsThrough_cons rfl rfl (microStep_finish rfl) rfl)

/-- Settles O19: the check decides which of the three clauses applies; an accepted INTFY is F_IFY, then FINISH. -/
theorem intfyCompletes : Obligations.IntfyCompletes := by
  unfold Obligations.IntfyCompletes
  intro s hidle
  have hcheck := checkInstr_intfy_eq_bmix s.rNat s.nNat s.params
  refine ⟨fun hzero => ?_, fun hlarge => ?_, fun hr hmax => ?_⟩
  · exact exec_of_check_ne_accepted hidle (hcheck.trans (hzero ▸ checkInstr_bmix_zero s.nNat s.params)) (by decide)
  · exact exec_of_check_ne_accepted hidle (hcheck.trans (checkInstr_bmix_tooLarge s.nNat hlarge)) (by decide)
  · have hfits : blockFits s.rNat s.params := ⟨hr, hmax⟩
    have hrun : Claims.carriesOut .intfy s s.intfyDone := intfy_carriesOut hfits
    have hexec : exec .intfy s = .next s.intfyDone :=
      exec_of_carriesOut hidle (hcheck.trans (checkInstr_bmix_fits s.nNat hfits)) hrun
    exact ⟨rfl, s.intfyDone, hexec, hrun, ⟨rfl, rfl, rfl⟩, fun w hw => word_of_read? hw .blk s.draws,
      rfl, rfl, rfl, rfl, rfl, rfl, rfl, rfl, rfl, rfl, rfl, rfl⟩

end Sys2Proof.Machine
end

section
/-! PROOFS. The micro-steps of ROMIX around its BlockMixes (R173 to R178): the state each leads to, what all of them
leave alone, and the sequencer's position from one step of a pass to the next. -/

namespace Sys2Proof.Machine

/-! ### The sequencer's position in a pass -/

/-- The sequencer is at the label `ms`, in step `i` of the pass `pass`. -/
def SeqPos.standsAt (q : SeqPos) (ms : MicroLabel) (pass : Pass) (i : Nat) : Prop :=
  q.ms = ms ∧ q.pass = pass ∧ q.i = i

/-- The position that Q_NEXT leads to after one of the `n` steps of a pass (R176). -/
def SeqPos.advanced (q : SeqPos) (n : Nat) : SeqPos :=
  match q.pass with
  | .fill => if q.i + 1 < n then { q with ms := .qSnap, i := q.i + 1 } else { q with ms := .qIdx, pass := .mix, i := 0 }
  | .mix => { q with ms := if q.i + 1 < n then .qIdx else .finish, i := q.i + 1 }

section
variable {q : SeqPos} {i n : Nat}

theorem advanced_op (q : SeqPos) (n : Nat) : (q.advanced n).op = q.op := by
  unfold SeqPos.advanced
  split
  · split <;> rfl
  · rfl

theorem SeqPos.standsAt.advanced_fill (h : q.standsAt .qNext .fill i) (hi : i + 1 < n) :
    (q.advanced n).standsAt .qSnap .fill (i + 1) := by
  obtain ⟨-, hpass, rfl⟩ := h
  simp [SeqPos.advanced, SeqPos.standsAt, hpass, hi]

theorem SeqPos.standsAt.advanced_fill_last (h : q.standsAt .qNext .fill i) (hi : i + 1 = n) :
    (q.advanced n).standsAt .qIdx .mix 0 := by
  obtain ⟨-, hpass, rfl⟩ := h
  simp [SeqPos.advanced, SeqPos.standsAt, hpass, hi]

theorem SeqPos.standsAt.advanced_mix (h : q.standsAt .qNext .mix i) (hi : i + 1 < n) :
    (q.advanced n).standsAt .qIdx .mix (i + 1) := by
  obtain ⟨-, hpass, rfl⟩ := h
  simp [SeqPos.advanced, SeqPos.standsAt, hpass, hi]

theorem SeqPos.standsAt.advanced_mix_last (h : q.standsAt .qNext .mix i) (hi : i + 1 = n) :
    (q.advanced n).ms = .finish := by
  obtain ⟨-, hpass, rfl⟩ := h
  simp [SeqPos.advanced, hpass, hi]

end

/-! ### The state each micro-step leads to -/

/-- The state that Q_INIT leads to (R173). -/
def State.fillBegun (s : State) : State := ((s.setPass .fill).setI 0).goto .qSnap

/-- The state that Q_SNAP leads to (R174). -/
def State.snapshotTaken (s : State) : State :=
  (s.drawn.setV (s.v.writeRun (slotAddr s.seq.i s.rNat) (s.blk.run .blk s.draws 0 (extent s.rNat)).toList)).goto .mInit

/-- The state that Q_NEXT leads to (R176). -/
def State.stepCounted (s : State) : State := s.setSeq (s.seq.advanced s.nNat)

/-- The state that Q_IDX leads to (R177). -/
def State.slotSelected (s : State) : State :=
  ((s.drawn.setIfy s.lastWord).setJ (BitVec.ofNat 32 (tableIndex s.lastWord s.nNat))).goto .qXor

/-- The state that Q_XOR leads to (R178). -/
def State.slotXored (s : State) : State :=
  (s.drawn.drawn.setBlk (s.blk.writeRun 0 (xorRun (s.blk.run .blk s.draws 0 (extent s.rNat))
    (s.v.run .v (s.draws + 1) (slotAddr s.j.toNat s.rNat) (extent s.rNat))).toList)).goto .mInit

/-- R172: the index register holds the index, which is no larger than the word it comes from. -/
theorem tableIndex_ofNat_toNat (w : Word) (n : Nat) : (BitVec.ofNat 32 (tableIndex w n)).toNat = tableIndex w n := by
  rw [BitVec.toNat_ofNat]
  exact Nat.mod_eq_of_lt (lt_of_le_of_lt (Nat.mod_le _ _) w.isLt)

/-- R65: a slot ends before every later one begins. -/
theorem slotAddr_add_extent_le {k i : Nat} (r : Nat) (h : k < i) : slotAddr k r + 32 * r ≤ slotAddr i r := by
  calc slotAddr k r + 32 * r = (k + 1) * (32 * r) := by unfold slotAddr; ring
    _ ≤ i * (32 * r) := Nat.mul_le_mul_right _ h
    _ = slotAddr i r := by unfold slotAddr; ring

section
variable {s : State}

theorem slot_inside {i r n : Nat} {p : Params} (hfits : tableFits r n p) (hi : i < n) :
    slotAddr i r + extent r ≤ p.vWords := (slotAddr_add_extent_le r hi).trans hfits.2

theorem microStep_qInit (hms : s.seq.ms = .qInit) : microStep s = .next s.fillBegun := by
  rw [microStep, hms, qInit, State.fillBegun]

theorem microStep_qSnap (hms : s.seq.ms = .qSnap) (hmax : s.rNat ≤ s.params.rMax)
    (hfits : tableFits s.rNat s.nNat s.params) (hi : s.seq.i < s.nNat) : microStep s = .next s.snapshotTaken := by
  have hsnap : microStep s = qSnap s := by rw [microStep, hms]
  have hin : 0 + extent s.rNat ≤ s.params.blkWords := (Nat.zero_add _).trans_le (extent_inside hmax)
  rw [hsnap, qSnap, withBlkRun_inside hin, drawn_seq, drawn_rNat,
    writeV_inside (s := s.drawn) (slot_inside hfits hi), andThen_next, State.snapshotTaken, drawn_v]

theorem microStep_qNext (hms : s.seq.ms = .qNext) (hi : s.seq.i < s.nNat) : microStep s = .next s.stepCounted := by
  have hnext : microStep s = qNext s := by rw [microStep, hms]
  rw [hnext, qNext, State.stepCounted, SeqPos.advanced]
  by_cases hlast : s.seq.i + 1 < s.nNat
  · cases hpass : s.seq.pass <;> simp [hlast, hpass, State.setI, State.goto, State.setSeq]
  · have heq : s.seq.i + 1 = s.nNat := by omega
    cases hpass : s.seq.pass <;> simp [heq, hpass, State.setI, State.setPass, State.goto, State.setSeq]

theorem microStep_qIdx (hms : s.seq.ms = .qIdx) (hfits : blockFits s.rNat s.params) (hn : 1 ≤ s.nNat) :
    microStep s = .next s.slotSelected := by
  have hidx : microStep s = qIdx s := by rw [microStep, hms]
  rw [hidx, qIdx, if_neg (by omega), withBlkLastWord_inside hfits.1 (lastChunkAddr_inside hfits), drawn_nNat,
    State.slotSelected, State.lastWord]

theorem microStep_qXor (hms : s.seq.ms = .qXor) (hmax : s.rNat ≤ s.params.rMax)
    (hfits : tableFits s.rNat s.nNat s.params) (hj : s.j.toNat < s.nNat) : microStep s = .next s.slotXored := by
  have hxor : microStep s = qXor s := by rw [microStep, hms]
  have hblk : extent s.rNat ≤ s.params.blkWords := extent_inside hmax
  have hrun : 0 + extent s.rNat ≤ s.params.blkWords := (Nat.zero_add _).trans_le hblk
  rw [hxor, qXor, withBlkRun_inside hrun, withVRun_inside (s := s.drawn) (slot_inside hfits hj),
    writeBlk_inside (s := s.drawn.drawn) hblk, andThen_next, State.slotXored]
  rfl

end

/-! ### What a ROMIX leaves alone -/

theorem keptOutside_refl (m : Memory) (a count : Nat) : Claims.keptOutside m m a count := fun _ _ => rfl

theorem keptOutside_trans {m m' m'' : Memory} {a count : Nat} (h : Claims.keptOutside m m' a count)
    (h' : Claims.keptOutside m' m'' a count) : Claims.keptOutside m m'' a count :=
  fun x hx => (h' x hx).trans (h x hx)

theorem keptOutside_writeRun (m : Memory) {a b count size : Nat} (ws : Vector Word count) (hlow : b ≤ a)
    (hhigh : a + count ≤ b + size) : Claims.keptOutside m (m.writeRun a ws.toList) b size := fun x hx =>
  read?_writeRun_outside m _ (by rw [Vector.length_toList]; omega)

/-- Everything that no micro-step of a ROMIX with parameters `r` and `n` changes before FINISH agrees in `s` and `t`. -/
structure AgreesOutsideRomix (r n : Nat) (s t : State) : Prop where
  status : t.status = s.status
  op : t.seq.op = s.seq.op
  host : Claims.hostFieldsKept s t
  blkOutside : Claims.keptOutside s.blk t.blk 0 (32 * r)
  yOutside : Claims.keptOutside s.y t.y 0 (32 * r)
  vOutside : Claims.keptOutside s.v t.v 0 (n * 32 * r)

/-- A ROMIX with parameters `r` and `n`, which its check has let through, is running. -/
structure RunsRomix (r n : Nat) (s : State) : Prop where
  busy : s.status.busy = true
  op : s.seq.op = .romix
  rNat : s.rNat = r
  nNat : s.nNat = n
  blockFits : blockFits r s.params
  tableFits : tableFits r n s.params

section
variable {r n i : Nat} {s t u : State}

theorem AgreesOutsideRomix.refl (r n : Nat) (s : State) : AgreesOutsideRomix r n s s where
  status := rfl
  op := rfl
  host := ⟨rfl, rfl, rfl, rfl, rfl⟩
  blkOutside := keptOutside_refl _ _ _
  yOutside := keptOutside_refl _ _ _
  vOutside := keptOutside_refl _ _ _

theorem AgreesOutsideRomix.trans (h : AgreesOutsideRomix r n s t) (h' : AgreesOutsideRomix r n t u) :
    AgreesOutsideRomix r n s u where
  status := h'.status.trans h.status
  op := h'.op.trans h.op
  host := by
    obtain ⟨hr, hn, hparams, hagenda, hreply⟩ := h.host
    obtain ⟨hr', hn', hparams', hagenda', hreply'⟩ := h'.host
    exact ⟨hr'.trans hr, hn'.trans hn, hparams'.trans hparams, hagenda'.trans hagenda, hreply'.trans hreply⟩
  blkOutside := keptOutside_trans h.blkOutside h'.blkOutside
  yOutside := keptOutside_trans h.yOutside h'.yOutside
  vOutside := keptOutside_trans h.vOutside h'.vOutside

theorem RunsRomix.of_agrees (h : RunsRomix r n s) (hst : AgreesOutsideRomix r n s t) : RunsRomix r n t := by
  obtain ⟨hr, hn, hparams, -, -⟩ := hst.host
  exact {
    busy := hst.status ▸ h.busy
    op := hst.op.trans h.op
    rNat := (congrArg BitVec.toNat hr).trans h.rNat
    nNat := (congrArg BitVec.toNat hn).trans h.nNat
    blockFits := hparams ▸ h.blockFits
    tableFits := hparams ▸ h.tableFits }

theorem agreesOutsideRomix_fillBegun (r n : Nat) (s : State) : AgreesOutsideRomix r n s s.fillBegun :=
  { AgreesOutsideRomix.refl r n s with }

theorem agreesOutsideRomix_snapshotTaken (h : RunsRomix r n s) (hi : s.seq.i < n) :
    AgreesOutsideRomix r n s s.snapshotTaken :=
  { AgreesOutsideRomix.refl r n s with
    vOutside := by
      obtain ⟨-, -, rfl, rfl, -, -⟩ := h
      exact keptOutside_writeRun s.v _ (Nat.zero_le _)
        ((slotAddr_add_extent_le s.rNat hi).trans (Nat.zero_add _).ge) }

theorem agreesOutsideRomix_stepCounted (r n : Nat) (s : State) : AgreesOutsideRomix r n s s.stepCounted :=
  { AgreesOutsideRomix.refl r n s with op := advanced_op s.seq s.nNat }

theorem agreesOutsideRomix_slotSelected (r n : Nat) (s : State) : AgreesOutsideRomix r n s s.slotSelected :=
  { AgreesOutsideRomix.refl r n s with }

theorem agreesOutsideRomix_slotXored (h : RunsRomix r n s) : AgreesOutsideRomix r n s s.slotXored :=
  { AgreesOutsideRomix.refl r n s with
    blkOutside := by
      obtain ⟨-, -, rfl, -, -, -⟩ := h
      exact keptOutside_writeRun s.blk _ le_rfl le_rfl }

theorem BlockMixed.agreesOutsideRomix (h : BlockMixed s t) (hs : RunsRomix r n s) : AgreesOutsideRomix r n s t where
  status := h.status
  op := h.op
  host := ⟨h.r, h.n, h.params, h.agenda, h.reply⟩
  blkOutside := hs.rNat ▸ h.blkOutside
  yOutside := hs.rNat ▸ h.yOutside
  vOutside := h.v ▸ keptOutside_refl _ _ _

/-! ### The BlockMix of a step -/

theorem BlockMixed.holds_blockMix (h : BlockMixed s t) (hr : s.rNat = r) {b : Block r} (hb : s.blk.holds b) :
    t.blk.holds (blockMix b) := by
  subst hr
  exact h.result b hb

theorem BlockMixed.standsAt {pass : Pass} (h : BlockMixed s t) (hop : s.seq.op = .romix)
    (hs : s.seq.standsAt .mInit pass i) : t.seq.standsAt .qNext pass i := by
  obtain ⟨-, hpass, hi⟩ := hs
  exact ⟨h.label.trans (if_neg (by simp [hop])), h.pass.trans hpass, h.i.trans hi⟩

/-- A ROMIX at M_INIT in one of the `n` steps of a pass carries out the BlockMix of the step and counts the step. -/
theorem exists_runsThrough_blockMix_qNext {pass : Pass} (hs : RunsRomix r n s) (hat : s.seq.standsAt .mInit pass i)
    (hi : i < n) :
    ∃ t, Claims.runsThrough (Claims.blockMixLabels r ++ [.qNext]) s t.stepCounted ∧ BlockMixed s t := by
  obtain ⟨t, hrun, ht⟩ := exists_runsThrough_blockMix hat.1 hs.busy (hs.rNat ▸ hs.blockFits) (.inr hs.op)
  have hrunning : RunsRomix r n t := hs.of_agrees (ht.agreesOutsideRomix hs)
  obtain ⟨hnext, -, hcount⟩ := ht.standsAt hs.op hat
  have hstep : microStep t = .next t.stepCounted := microStep_qNext hnext (by rwa [hcount, hrunning.nNat])
  exact ⟨t, runsThrough_append (hs.rNat ▸ hrun) (runsThrough_cons hnext hrunning.busy hstep rfl), ht⟩

end

end Sys2Proof.Machine
end

section
/-! PROOFS. The command ROMIX (R182): the fill pass and the mix pass as invariants over their steps, and the command's
rejections, run, result and frame. -/

namespace Sys2Proof.Machine

/-! ### The table in V -/

/-- The words of slots 0 to `n - 1` of the memory have all been written, and are those of `vs` (R65). -/
def Memory.holdsTable {r n : Nat} (m : Memory) (vs : Vector (Block r) n) : Prop :=
  ∀ i (hi : i < n) k (hk : k < 32 * r), m.read? (slotAddr i r + k) = some vs[i][k]

section
variable {r n : Nat} {m : Memory} {vs : Vector (Block r) n}

theorem run_of_holdsTable (h : m.holdsTable vs) {i : Nat} (hi : i < n) (src : Source) (draw : Nat) :
    m.run src draw (slotAddr i r) (32 * r) = vs[i] :=
  Vector.ext fun k hk => by
    rw [getElem_run]
    exact word_of_read? (h i hi k hk) src draw

/-- A snapshot in slot `n` extends a table of `n` slots. -/
theorem holdsTable_writeRun_push (h : m.holdsTable vs) (x : Block r) :
    (m.writeRun (slotAddr n r) x.toList).holdsTable (vs.push x) := fun i hi k hk => by
  by_cases hlast : i = n
  · subst hlast
    rw [read?_writeRun_inside m _ _ (by rwa [Vector.length_toList]), Vector.getElem_toList]
    simp only [Vector.getElem_push_eq]
  · have hin : i < n := by omega
    have hbefore : slotAddr i r + 32 * r ≤ slotAddr n r := slotAddr_add_extent_le r hin
    rw [read?_writeRun_outside m _ (.inl (by omega)), h i hin k hk]
    simp only [Vector.getElem_push_lt hin]

theorem lastWord_of_holds {s : State} (hrs : s.rNat = r) (hr : 1 ≤ r) {x : Block r} (h : s.blk.holds x) :
    s.lastWord = integerify hr x := by
  subst hrs
  exact word_of_read? (h _ _) .blk s.draws

/-- R181: the last of the mix steps works on what those before it have left. -/
theorem mixPass_succ_last (hr : 1 ≤ r) (hn : 1 ≤ n) (vs : Vector (Block r) n) (count : Nat) (x : Block r) :
    mixPass hr hn vs (count + 1) x = mixStep hr hn vs (mixPass hr hn vs count x) := by
  induction count generalizing x with
  | zero => rfl
  | succ count ih => rw [mixPass_succ, ih, ← mixPass_succ]

end

/-! ### The fill pass -/

/-- The ROMIX whose fill pass begins in `s` has taken `i` of its `n` fill steps when it is in `t`. -/
structure Filled (r n : Nat) (s : State) (i : Nat) (t : State) : Prop extends AgreesOutsideRomix r n s t where
  going : i < n → t.seq.standsAt .qSnap .fill i
  ended : i = n → t.seq.standsAt .qIdx .mix 0
  table : ∀ b : Block r, s.blk.holds b → t.v.holdsTable (fillPass i b).1
  block : ∀ b : Block r, s.blk.holds b → t.blk.holds (fillPass i b).2

section
variable {r n i : Nat} {s t u : State}

theorem filled_zero (hn : 1 ≤ n) (hat : s.seq.standsAt .qSnap .fill 0) : Filled r n s 0 s where
  toAgreesOutsideRomix := .refl r n s
  going _ := hat
  ended h := by omega
  table _ _ _ h := absurd h (Nat.not_lt_zero _)
  block _ hb := hb

/-- Q_SNAP stores the block that it finds in BLK. -/
theorem snapshotTaken_v_of_holds (hs : s.rNat = r) (hi : s.seq.i = i) {x : Block r} (hx : s.blk.holds x) :
    s.snapshotTaken.v = s.v.writeRun (slotAddr i r) x.toList := by
  subst hs hi
  rw [← run_of_holds hx .blk s.draws]
  rfl

/-- A fill step is a snapshot and a BlockMix. -/
theorem Filled.succ (h : Filled r n s i t) (hs : RunsRomix r n s) (hi : i < n) (hu : BlockMixed t.snapshotTaken u) :
    Filled r n s (i + 1) u.stepCounted := by
  have ht : RunsRomix r n t := hs.of_agrees h.toAgreesOutsideRomix
  obtain ⟨-, hpass, hcount⟩ := h.going hi
  have hsnap : AgreesOutsideRomix r n t t.snapshotTaken := agreesOutsideRomix_snapshotTaken ht (hcount ▸ hi)
  have hmix : AgreesOutsideRomix r n t.snapshotTaken u := hu.agreesOutsideRomix (ht.of_agrees hsnap)
  have hnext : u.seq.standsAt .qNext .fill i := hu.standsAt ht.op ⟨rfl, hpass, hcount⟩
  have hun : u.nNat = n := ((ht.of_agrees hsnap).of_agrees hmix).nNat
  refine ⟨((h.toAgreesOutsideRomix.trans hsnap).trans hmix).trans (agreesOutsideRomix_stepCounted r n u),
    fun hlt => ?_, fun hlast => ?_, fun b hb => ?_, fun b hb => ?_⟩
  · exact hnext.advanced_fill (hun.symm ▸ hlt)
  · exact hnext.advanced_fill_last (hlast.trans hun.symm)
  · have hv : u.v = t.v.writeRun (slotAddr i r) (fillPass i b).2.toList :=
      hu.v.trans (snapshotTaken_v_of_holds ht.rNat hcount (h.block b hb))
    rw [fillPass_succ]
    exact hv ▸ holdsTable_writeRun_push (h.table b hb) _
  · exact hu.holds_blockMix ht.rNat (h.block b hb)

/-- From the first Q_SNAP and through `i` fill steps, the engine keeps the invariant. -/
theorem exists_runsThrough_fillSteps (hs : RunsRomix r n s) (hat : s.seq.standsAt .qSnap .fill 0) (hi : i ≤ n) :
    ∃ t, Claims.runsThrough
      (List.replicate i (.qSnap :: Claims.blockMixLabels r ++ [.qNext])).flatten s t ∧ Filled r n s i t := by
  induction i with
  | zero => exact ⟨s, rfl, filled_zero hs.tableFits.1 hat⟩
  | succ i ih =>
    obtain ⟨t, hrun, ht⟩ := ih (by omega)
    have hrunning : RunsRomix r n t := hs.of_agrees ht.toAgreesOutsideRomix
    obtain ⟨hms, hpass, hcount⟩ := ht.going hi
    have hcounted : t.seq.i < n := hcount ▸ hi
    have hsnap : microStep t = .next t.snapshotTaken := by
      obtain ⟨-, -, rfl, rfl, hblk, htable⟩ := hrunning
      exact microStep_qSnap hms hblk.2 htable hcounted
    have hsnapped : RunsRomix r n t.snapshotTaken :=
      hrunning.of_agrees (agreesOutsideRomix_snapshotTaken hrunning hcounted)
    obtain ⟨u, hmixed, hu⟩ := exists_runsThrough_blockMix_qNext hsnapped ⟨rfl, hpass, hcount⟩ hi
    rw [List.replicate_succ', List.flatten_concat]
    exact ⟨u.stepCounted, runsThrough_append hrun (runsThrough_cons hms hrunning.busy hsnap hmixed), ht.succ hs hi hu⟩

end

/-! ### The mix pass -/

/-- The ROMIX whose mix pass begins in `s` has taken `c` of its `n` mix steps when it is in `t`. -/
structure TableMixed {r n : Nat} (hr : 1 ≤ r) (hn : 1 ≤ n) (s : State) (c : Nat) (t : State) : Prop
    extends AgreesOutsideRomix r n s t where
  going : c < n → t.seq.standsAt .qIdx .mix c
  ended : c = n → t.seq.ms = .finish
  table : t.v = s.v
  block : ∀ (vs : Vector (Block r) n) (x : Block r), s.v.holdsTable vs → s.blk.holds x →
    t.blk.holds (mixPass hr hn vs c x)
  index : 1 ≤ c → t.j.toNat = t.ify.toNat % n
  lastRead : 1 ≤ c → ∀ (vs : Vector (Block r) n) (x : Block r), s.v.holdsTable vs → s.blk.holds x →
    t.ify = integerify hr (mixPass hr hn vs (c - 1) x)

section
variable {r n c : Nat} {hr : 1 ≤ r} {hn : 1 ≤ n} {s t u : State}

theorem tableMixed_zero (hat : s.seq.standsAt .qIdx .mix 0) : TableMixed hr hn s 0 s where
  toAgreesOutsideRomix := .refl r n s
  going _ := hat
  ended h := by omega
  table := rfl
  block _ _ _ hx := hx
  index h := by omega
  lastRead h := by omega

theorem slotSelected_j_toNat (hs : s.nNat = n) : s.slotSelected.j.toNat = tableIndex s.lastWord n :=
  hs ▸ tableIndex_ofNat_toNat s.lastWord s.nNat

/-- Q_XOR combines the block with the slot that Q_IDX has selected. -/
theorem slotXored_holds (hs : s.rNat = r) {vs : Vector (Block r) n} {x : Block r} (hj : s.j.toNat < n)
    (hvs : s.v.holdsTable vs) (hx : s.blk.holds x) : s.slotXored.blk.holds (xorRun x vs[s.j.toNat]) := by
  subst hs
  have hblk : s.slotXored.blk = s.blk.writeRun 0 (xorRun (s.blk.run .blk s.draws 0 (32 * s.rNat))
    (s.v.run .v (s.draws + 1) (slotAddr s.j.toNat s.rNat) (32 * s.rNat))).toList := rfl
  rw [hblk, run_of_holds hx, run_of_holdsTable hvs hj]
  exact holds_writeRun s.blk _

/-- Q_IDX, Q_XOR and BlockMix are one mix step of R181. -/
theorem BlockMixed.holds_mixStep (hu : BlockMixed t.slotSelected.slotXored u) (ht : RunsRomix r n t)
    {vs : Vector (Block r) n} {x : Block r} (hvs : t.v.holdsTable vs) (hx : t.blk.holds x) :
    u.blk.holds (mixStep hr hn vs x) := by
  have hj : t.slotSelected.j.toNat = tableIndex (integerify hr x) n :=
    (slotSelected_j_toNat ht.nNat).trans (congrArg (tableIndex · n) (lastWord_of_holds ht.rNat hr hx))
  have hlt : t.slotSelected.j.toNat < n := hj ▸ tableIndex_lt _ hn
  have hxored := hu.holds_blockMix ht.rNat (slotXored_holds (s := t.slotSelected) ht.rNat hlt hvs hx)
  simp only [hj] at hxored
  exact hxored

theorem TableMixed.succ (h : TableMixed hr hn s c t) (hs : RunsRomix r n s) (hc : c < n)
    (hu : BlockMixed t.slotSelected.slotXored u) : TableMixed hr hn s (c + 1) u.stepCounted := by
  have ht : RunsRomix r n t := hs.of_agrees h.toAgreesOutsideRomix
  obtain ⟨-, hpass, hcount⟩ := h.going hc
  have hsel : AgreesOutsideRomix r n t t.slotSelected := agreesOutsideRomix_slotSelected r n t
  have hxor : AgreesOutsideRomix r n t t.slotSelected.slotXored :=
    hsel.trans (agreesOutsideRomix_slotXored (ht.of_agrees hsel))
  have hmix : AgreesOutsideRomix r n t u := hxor.trans (hu.agreesOutsideRomix (ht.of_agrees hxor))
  have hnext : u.seq.standsAt .qNext .mix c := hu.standsAt ht.op ⟨rfl, hpass, hcount⟩
  have hun : u.nNat = n := (ht.of_agrees hmix).nNat
  have hify : u.ify = t.lastWord := hu.ify
  have hj : u.j = t.slotSelected.j := hu.j
  refine ⟨(h.toAgreesOutsideRomix.trans hmix).trans (agreesOutsideRomix_stepCounted r n u),
    fun hlt => ?_, fun hlast => ?_, hu.v.trans h.table, fun vs x hvs hx => ?_, fun _ => ?_, fun _ vs x hvs hx => ?_⟩
  · exact hnext.advanced_mix (hun.symm ▸ hlt)
  · exact hnext.advanced_mix_last (hlast.trans hun.symm)
  · rw [mixPass_succ_last]
    exact hu.holds_mixStep ht (h.table.symm ▸ hvs) (h.block vs x hvs hx)
  · calc u.j.toNat = tableIndex t.lastWord n := hj ▸ slotSelected_j_toNat ht.nNat
      _ = u.ify.toNat % n := by rw [hify, tableIndex]
  · exact hify.trans (lastWord_of_holds ht.rNat hr (h.block vs x hvs hx))

/-- From the first Q_IDX and through `c` mix steps, the engine keeps the invariant. -/
theorem exists_runsThrough_mixSteps (hr : 1 ≤ r) (hn : 1 ≤ n) (hs : RunsRomix r n s)
    (hat : s.seq.standsAt .qIdx .mix 0) (hc : c ≤ n) :
    ∃ t, Claims.runsThrough
      (List.replicate c (.qIdx :: .qXor :: Claims.blockMixLabels r ++ [.qNext])).flatten s t ∧
        TableMixed hr hn s c t := by
  induction c with
  | zero => exact ⟨s, rfl, tableMixed_zero hat⟩
  | succ c ih =>
    obtain ⟨t, hrun, ht⟩ := ih (by omega)
    have hrunning : RunsRomix r n t := hs.of_agrees ht.toAgreesOutsideRomix
    obtain ⟨hms, hpass, hcount⟩ := ht.going hc
    have hselected : RunsRomix r n t.slotSelected := hrunning.of_agrees (agreesOutsideRomix_slotSelected r n t)
    have hj : t.slotSelected.j.toNat < n := slotSelected_j_toNat hrunning.nNat ▸ tableIndex_lt _ hn
    have hidx : microStep t = .next t.slotSelected :=
      microStep_qIdx hms (hrunning.rNat ▸ hrunning.blockFits) (hrunning.nNat ▸ hn)
    have hxor : microStep t.slotSelected = .next t.slotSelected.slotXored := by
      obtain ⟨-, -, rfl, rfl, hblk, htable⟩ := hselected
      exact microStep_qXor rfl hblk.2 htable hj
    have hxored : RunsRomix r n t.slotSelected.slotXored :=
      hselected.of_agrees (agreesOutsideRomix_slotXored hselected)
    obtain ⟨u, hmixed, hu⟩ := exists_runsThrough_blockMix_qNext hxored ⟨rfl, hpass, hcount⟩ hc
    rw [List.replicate_succ', List.flatten_concat]
    exact ⟨u.stepCounted, runsThrough_append hrun (runsThrough_cons hms hrunning.busy hidx
      (runsThrough_cons rfl hselected.busy hxor hmixed)), ht.succ hs hc hu⟩

end

/-! ### The check (R222 to R225) -/

section
variable {r n : Nat} {p : Params}

theorem checkInstr_romix_zero (n : Nat) (p : Params) : checkInstr .romix 0 n p = .paramR := rfl

theorem checkInstr_romix_zeroCost (hr : 1 ≤ r) (p : Params) : checkInstr .romix r 0 p = .paramN := by
  rw [checkInstr, if_neg (by omega), if_pos rfl]

theorem checkInstr_romix_tooLarge (hn : 1 ≤ n) (h : p.rMax < r) : checkInstr .romix r n p = .resBlk := by
  rw [checkInstr, if_neg (by omega), if_neg (by omega), if_pos h]

theorem checkInstr_romix_tableTooLarge (hfits : blockFits r p) (h : p.vWords < n * 32 * r) :
    checkInstr .romix r n p = .resV := by
  obtain ⟨hr, hmax⟩ := hfits
  have hn : n ≠ 0 := by
    rintro rfl
    simp at h
  rw [checkInstr, if_neg (by omega), if_neg hn, if_neg (by omega), if_pos h]

theorem checkInstr_romix_fits (hblk : blockFits r p) (htable : tableFits r n p) :
    checkInstr .romix r n p = .accepted := by
  obtain ⟨hr, hmax⟩ := hblk
  obtain ⟨hn, hsize⟩ := htable
  rw [checkInstr, if_neg (by omega), if_neg (by omega), if_neg (by omega), if_neg (by omega)]

end

/-! ### The command -/

/-- What ROMIX, issued in `s`, has done when it is at FINISH in `t`. -/
structure RomixDone {s : State} (hr : 1 ≤ s.rNat) (hn : 1 ≤ s.nNat) (t : State) : Prop
    extends AgreesOutsideRomix s.rNat s.nNat (accept .romix s) t where
  result : ∀ b : Block s.rNat, s.blk.holds b →
    t.blk.holds (roMix hr hn b) ∧ t.ify = integerify hr (lastMixBlock hr hn b)
  index : t.j.toNat = t.ify.toNat % s.nNat

theorem exists_romix_carriesOut {s : State} (hr : 1 ≤ s.rNat) (hn : 1 ≤ s.nNat)
    (hblk : blockFits s.rNat s.params) (htable : tableFits s.rNat s.nNat s.params) :
    ∃ t, RomixDone hr hn t ∧ Claims.carriesOut .romix s t.finished := by
  have hbegun : RunsRomix s.rNat s.nNat (accept .romix s).fillBegun := ⟨rfl, rfl, rfl, rfl, hblk, htable⟩
  obtain ⟨f, hfill, hf⟩ := exists_runsThrough_fillSteps hbegun ⟨rfl, rfl, rfl⟩ le_rfl
  have hfilled : RunsRomix s.rNat s.nNat f := hbegun.of_agrees hf.toAgreesOutsideRomix
  obtain ⟨t, hmix, ht⟩ := exists_runsThrough_mixSteps hr hn hfilled (hf.ended rfl) le_rfl
  have hend : t.seq.ms = .finish := ht.ended rfl
  have hbusy : t.status.busy = true := (hfilled.of_agrees ht.toAgreesOutsideRomix).busy
  have hagrees : AgreesOutsideRomix s.rNat s.nNat (accept .romix s) t :=
    ((agreesOutsideRomix_fillBegun _ _ _).trans hf.toAgreesOutsideRomix).trans ht.toAgreesOutsideRomix
  refine ⟨t, ⟨hagrees, fun b hb => ?_, ht.index hn⟩, ?_⟩
  · exact ⟨ht.block _ _ (hf.table b hb) (hf.block b hb), ht.lastRead hn _ _ (hf.table b hb) (hf.block b hb)⟩
  · have hinit : microStep (accept .romix s) = .next (accept .romix s).fillBegun := microStep_qInit rfl
    have hpasses := runsThrough_append (runsThrough_cons rfl rfl hinit hfill) hmix
    exact runsThrough_append hpasses (runsThrough_cons hend hbusy (microStep_finish hend) rfl)

/-- Settles O20: the check decides which of the five clauses applies; an accepted ROMIX is Q_INIT, the two passes, and
FINISH. -/
theorem romixCompletes : Obligations.RomixCompletes := by
  unfold Obligations.RomixCompletes
  intro s hidle
  refine ⟨fun hzero => ?_, fun hr hzero => ?_, fun hlarge hn => ?_, fun hr hmax hsize => ?_, fun hr hn hmax hsize => ?_⟩
  · exact exec_of_check_ne_accepted hidle (hzero ▸ checkInstr_romix_zero s.nNat s.params) (by decide)
  · exact exec_of_check_ne_accepted hidle (hzero ▸ checkInstr_romix_zeroCost hr s.params) (by decide)
  · exact exec_of_check_ne_accepted hidle (checkInstr_romix_tooLarge hn hlarge) (by decide)
  · exact exec_of_check_ne_accepted hidle (checkInstr_romix_tableTooLarge ⟨hr, hmax⟩ hsize) (by decide)
  · have hblk : blockFits s.rNat s.params := ⟨hr, hmax⟩
    have htable : tableFits s.rNat s.nNat s.params := ⟨hn, hsize⟩
    obtain ⟨t, ht, hrun⟩ := exists_romix_carriesOut hr hn hblk htable
    have hstatus : t.finished.status = ⟨false, true, 0⟩ := congrArg Status.finished ht.status
    exact ⟨rfl, t.finished, exec_of_carriesOut hidle (checkInstr_romix_fits hblk htable) hrun, hrun,
      ⟨hstatus, rfl, rfl⟩, ht.result, ht.index, ht.blkOutside, ht.yOutside, ht.vOutside, ht.host⟩

end Sys2Proof.Machine
end

section
/-! PROOFS. Command issue as one atomic step (R205): by the verdict of R227, the write to CMD is the acceptance of the
command the word names, or a rejection with that verdict. -/

namespace Sys2Proof.Machine

section
variable {w : Word} {i : Instr} {s : State}

theorem check_of_decode_eq_ok (h : decode w = .ok i) (r n : Word) (p : Params) :
    check w r n p = checkInstr i r.toNat n.toNat p := by
  rw [check, h]

theorem check_of_decode_eq_error {e : Illegal} (h : decode w = .error e) (r n : Word) (p : Params) :
    check w r n p = .illCmd := by
  rw [check, h]

theorem exists_decode_eq_ok_of_accepted {r n : Word} {p : Params} (h : check w r n p = .accepted) :
    ∃ i, decode w = .ok i := by
  cases hw : decode w with
  | error e => simp [check_of_decode_eq_error hw] at h
  | ok i => exact ⟨i, rfl⟩

theorem issueIdle_of_accepted (hw : decode w = .ok i) (h : check w s.r s.n s.params = .accepted) :
    issueIdle w s = accept i s := by
  have hcheck : checkInstr i s.rNat s.nNat s.params = .accepted := (check_of_decode_eq_ok hw ..).symm.trans h
  simp only [issueIdle, hw, hcheck]

theorem issueIdle_of_not_accepted (h : check w s.r s.n s.params ≠ .accepted) :
    issueIdle w s = reject (check w s.r s.n s.params) s := by
  cases hw : decode w with
  | error e => rw [issueIdle_of_decode_eq_error hw, check_of_decode_eq_error hw]
  | ok i =>
    rw [check_of_decode_eq_ok hw] at h ⊢
    simp only [issueIdle, hw]
    split
    · exact absurd ‹_› h
    · rfl

/-- R205: SEQ after the acceptance of the command that the word names. -/
theorem accept_seq_of_decode {k : Instr} (hw : decode w = .ok i) (hk : decode w = .ok k) :
    (accept i s).seq = { s.seq with op := opOf k, ms := firstLabel k } := by
  obtain rfl : i = k := Except.ok.inj (hw.symm.trans hk)
  exact accept_seq ..

end

/-- Settles O25: the state after the issue is the acceptance or the rejection, by the verdict. -/
theorem commandIssueIsOneAtomicStep : Obligations.CommandIssueIsOneAtomicStep := by
  unfold Obligations.CommandIssueIsOneAtomicStep
  intro s w hidle
  rw [hostAccess_wcsr_cmd_of_idle hidle]
  by_cases hcheck : check w s.r s.n s.params = .accepted
  · obtain ⟨i, hw⟩ := exists_decode_eq_ok_of_accepted hcheck
    have herr : (accept i s).status.err = verdictCode (check w s.r s.n s.params) := by rw [hcheck]; rfl
    exact ⟨accept i s, issueIdle_of_accepted hw hcheck, rfl, herr,
      fun _ => ⟨rfl, accept_seq_of_decode hw, accept_seq_of_decode hw, accept_seq_of_decode hw,
        accept_seq_of_decode hw⟩,
      fun hreject => absurd hcheck hreject, rfl⟩
  · exact ⟨reject (check w s.r s.n s.params) s, issueIdle_of_not_accepted hcheck, rfl, rfl,
      fun haccept => absurd haccept hcheck, fun _ => ⟨rfl, rfl⟩, rfl⟩

end Sys2Proof.Machine
end

section
/-! PROOFS. The host's accesses to BLK and to the CSRs (R201 to R204): what each read answers and each write stores, by
BUSY and by the address or the index, then the statements. -/

namespace Sys2Proof.Machine

/-! ### BLK -/

section
variable {s : State} {a : Nat}

theorem readBlk_of_busy (hbusy : s.status.busy = true) (a : Nat) : readBlk a s = answerUnspecified .busBlk a s :=
  if_pos hbusy

theorem readBlk_outside (hidle : s.status.busy = false) (ha : s.params.blkWords ≤ a) : readBlk a s = answer 0 s := by
  rw [readBlk, if_neg (by simp [hidle]), if_pos ha]

theorem readBlk_written (hidle : s.status.busy = false) (ha : a < s.params.blkWords) {w : Word}
    (hw : s.blk.read? a = some w) : readBlk a s = answer w s := by
  rw [readBlk, if_neg (by simp [hidle]), if_neg (by omega), hw]

theorem readBlk_unwritten (hidle : s.status.busy = false) (ha : a < s.params.blkWords)
    (hnone : s.blk.read? a = none) : readBlk a s = answerUnspecified .blk a s := by
  rw [readBlk, if_neg (by simp [hidle]), if_neg (by omega), hnone]

/-- R203: a read of BLK is an answer, with a word that is specified or not, and nothing else. -/
theorem readBlk_cases (a : Nat) (s : State) :
    (∃ w, readBlk a s = answer w s) ∨ ∃ src, readBlk a s = answerUnspecified src a s := by
  cases hbusy : s.status.busy with
  | true => exact .inr ⟨_, readBlk_of_busy hbusy a⟩
  | false =>
    by_cases ha : a < s.params.blkWords
    · cases hw : s.blk.read? a with
      | some w => exact .inl ⟨w, readBlk_written hbusy ha hw⟩
      | none => exact .inr ⟨_, readBlk_unwritten hbusy ha hw⟩
    · exact .inl ⟨0, readBlk_outside hbusy (by omega)⟩

theorem storeBlk_of_busy (hbusy : s.status.busy = true) (a : Nat) (v : Word) : storeBlk a v s = s := if_pos hbusy

theorem storeBlk_outside (ha : s.params.blkWords ≤ a) (v : Word) : storeBlk a v s = s := by
  rw [storeBlk, if_pos ha, ite_self]

theorem storeBlk_inside (hidle : s.status.busy = false) (ha : a < s.params.blkWords) (v : Word) :
    storeBlk a v s = s.setBlk (s.blk.write a v) := by
  rw [storeBlk, if_neg (by simp [hidle]), if_neg (by omega)]

theorem readBlk_setBlk_write_same (hidle : s.status.busy = false) (ha : a < s.params.blkWords) (v : Word) :
    readBlk a (s.setBlk (s.blk.write a v)) = answer v (s.setBlk (s.blk.write a v)) :=
  readBlk_written (s := s.setBlk (s.blk.write a v)) hidle ha (read?_write_same s.blk a v)

theorem keptOutside_write (m : Memory) (a : Nat) (v : Word) : Claims.keptOutside m (m.write a v) a 1 :=
  fun _ hx => read?_write_other m v (by omega)

end

/-- Settles O30: a read is an answer whatever the state; inside BLK a write is one `Memory.write`, read back by the
memory's own law. -/
theorem blkReadsAndWrites : Obligations.BlkReadsAndWrites := by
  unfold Obligations.BlkReadsAndWrites
  refine fun s a v => ⟨?_, fun hbusy => storeBlk_of_busy hbusy a v, fun hidle ha => ?_, fun hidle ha => ?_⟩
  · obtain ⟨w, hw⟩ | ⟨src, hsrc⟩ := readBlk_cases a s
    · exact ⟨w, s.draws, hw⟩
    · exact ⟨_, _, hsrc⟩
  · have hstore : hostAccess (.wblk a v) s = s.setBlk (s.blk.write a v) := storeBlk_inside hidle ha v
    have hback := readBlk_setBlk_write_same hidle ha v
    rw [hstore]
    exact ⟨congrArg State.reply hback, rfl, keptOutside_write s.blk a v, fun w hw => readBlk_written hidle ha hw⟩
  · exact ⟨storeBlk_outside ha v, readBlk_outside hidle ha⟩

/-! ### The CSRs -/

/-- R201: the word that the CSR an index selects reads as while idle, a reserved index being `none`. -/
def State.csrWord (s : State) : Option Csr → Word
  | some .status => s.status.word
  | some .r => s.r
  | some .n => s.n
  | some .ify => s.ify
  | some .j => s.j
  | some .cmd => 0
  | none => 0

section
variable {s : State} {i : Nat}

theorem csrOfIndex_reserved (hi : 6 ≤ i) : csrOfIndex i = none := by
  obtain ⟨k, rfl⟩ := Nat.exists_eq_add_of_le' hi
  rfl

theorem csrIndex_of_csrOfIndex {c : Csr} (h : csrOfIndex i = some c) : csrIndex c = i := by
  match i, h with
  | 0, rfl | 1, rfl | 2, rfl | 3, rfl | 4, rfl | 5, rfl => rfl

theorem readCsr_status (s : State) : readCsr 1 s = answer s.status.word s := rfl

theorem readCsr_of_busy (hbusy : s.status.busy = true) (hi : i ≠ 1) :
    readCsr i s = answerUnspecified .busCsr i s := by
  unfold readCsr
  split
  · exact absurd (csrIndex_of_csrOfIndex ‹_›).symm hi
  · exact if_pos hbusy

theorem readCsr_of_idle (hidle : s.status.busy = false) (i : Nat) :
    readCsr i s = answer (s.csrWord (csrOfIndex i)) s := by
  unfold readCsr
  rw [hidle]
  cases csrOfIndex i with
  | none => rfl
  | some c => cases c <;> rfl

theorem readCsr_reserved (hidle : s.status.busy = false) (hi : 6 ≤ i) : readCsr i s = answer 0 s := by
  rw [readCsr_of_idle hidle, csrOfIndex_reserved hi, State.csrWord]

theorem writeCsr_of_busy (hbusy : s.status.busy = true) (i : Nat) (v : Word) : writeCsr i v s = s := if_pos hbusy

theorem writeCsr_r (hidle : s.status.busy = false) (v : Word) : writeCsr 2 v s = s.setR v := by
  rw [writeCsr, hidle]
  rfl

theorem writeCsr_n (hidle : s.status.busy = false) (v : Word) : writeCsr 3 v s = s.setN v := by
  rw [writeCsr, hidle]
  rfl

theorem writeCsr_readOnly (hi : i = 1 ∨ 4 ≤ i) (v : Word) (s : State) : writeCsr i v s = s := by
  match i, hi with
  | 1, _ | 4, _ | 5, _ | _ + 6, _ => exact ite_self _
  | 0, h | 2, h | 3, h => omega

end

/-- Settles O28: STATUS in any state; else by BUSY, and while idle the word of the register that the index selects. -/
theorem csrReadsReturn : Obligations.CsrReadsReturn := by
  unfold Obligations.CsrReadsReturn
  refine fun s i => ⟨readCsr_status s, fun hbusy hi => ⟨_, _, readCsr_of_busy hbusy hi⟩, fun hidle => ?_⟩
  exact ⟨readCsr_of_idle hidle 0, readCsr_of_idle hidle 2, readCsr_of_idle hidle 3, readCsr_of_idle hidle 4,
    readCsr_of_idle hidle 5, readCsr_reserved hidle⟩

/-- Settles O29: by BUSY, and while idle one rule for each register that takes a write and one for the others. -/
theorem csrWritesStore : Obligations.CsrWritesStore := by
  unfold Obligations.CsrWritesStore
  refine fun s v i => ⟨fun hbusy => writeCsr_of_busy hbusy i v, fun hidle => ?_⟩
  exact ⟨hostAccess_wcsr_cmd_of_idle hidle v, writeCsr_r hidle v, writeCsr_n hidle v,
    fun hi => writeCsr_readOnly hi v s⟩

end Sys2Proof.Machine
end

section
/-! PROOFS. The exception mechanism (R221 to R228): the verdict of an issue as one chain of conditions, each code by the
condition it stands for, and what a rejected command and an illegal word do. -/

namespace Sys2Proof.Machine

/-! ### The verdict on a command -/

section
variable {i : Instr} {r n : Nat} {p : Params}

/-- R227: the conditions of R222 to R225, in the order of priority, each with the commands it is about. -/
theorem checkInstr_eq_ite (i : Instr) (r n : Nat) (p : Params) :
    checkInstr i r n p =
      if i ≠ .salsa ∧ r = 0 then .paramR
      else if i = .romix ∧ n = 0 then .paramN
      else if i ≠ .salsa ∧ p.rMax < r then .resBlk
      else if i = .romix ∧ p.vWords < n * 32 * r then .resV
      else .accepted := by
  cases i <;> simp [checkInstr]

theorem checkInstr_ne_illCmd (i : Instr) (r n : Nat) (p : Params) : checkInstr i r n p ≠ .illCmd := by
  rw [checkInstr_eq_ite]
  split_ifs <;> decide

theorem ne_salsa_of_eq_romix (h : i = .romix) : i ≠ .salsa := by
  rw [h]
  decide

theorem checkInstr_eq_paramR_iff : checkInstr i r n p = .paramR ↔ i ≠ .salsa ∧ r = 0 := by
  simp only [checkInstr_eq_ite, ite_eq_iff, reduceCtorEq]
  tauto

theorem checkInstr_eq_paramN_iff : checkInstr i r n p = .paramN ↔ i = .romix ∧ r ≠ 0 ∧ n = 0 := by
  have hne : i = .romix → i ≠ .salsa := ne_salsa_of_eq_romix
  simp only [checkInstr_eq_ite, ite_eq_iff, reduceCtorEq]
  tauto

theorem checkInstr_eq_resBlk_iff :
    checkInstr i r n p = .resBlk ↔ i ≠ .salsa ∧ r ≠ 0 ∧ (i = .romix → n ≠ 0) ∧ p.rMax < r := by
  simp only [checkInstr_eq_ite, ite_eq_iff, reduceCtorEq]
  tauto

theorem checkInstr_eq_resV_iff :
    checkInstr i r n p = .resV ↔ i = .romix ∧ r ≠ 0 ∧ n ≠ 0 ∧ r ≤ p.rMax ∧ p.vWords < n * 32 * r := by
  have hne : i = .romix → i ≠ .salsa := ne_salsa_of_eq_romix
  simp only [checkInstr_eq_ite, ite_eq_iff, reduceCtorEq, ← not_lt (a := p.rMax)]
  tauto

theorem checkInstr_eq_accepted_iff :
    checkInstr i r n p = .accepted ↔
      (i ≠ .salsa → r ≠ 0 ∧ r ≤ p.rMax) ∧ (i = .romix → n ≠ 0 ∧ n * 32 * r ≤ p.vWords) := by
  simp only [checkInstr_eq_ite, ite_eq_iff, reduceCtorEq, ← not_lt]
  tauto

end

/-! ### The verdict on a word -/

section
variable {w r n : Word} {p : Params}

theorem exists_decode_eq_error_of_no_command (h : ∀ i, decode w ≠ .ok i) : ∃ e, decode w = .error e := by
  cases hw : decode w with
  | error e => exact ⟨e, rfl⟩
  | ok i => exact absurd hw (h i)

theorem check_eq_illCmd_iff : check w r n p = .illCmd ↔ ∀ i, decode w ≠ .ok i := by
  refine ⟨fun h i hw => ?_, fun h => ?_⟩
  · exact checkInstr_ne_illCmd _ _ _ _ ((check_of_decode_eq_ok hw r n p).symm.trans h)
  · obtain ⟨e, he⟩ := exists_decode_eq_error_of_no_command h
    exact check_of_decode_eq_error he r n p

/-- Any other verdict is that on the command which the word names. -/
theorem check_eq_iff_of_ne_illCmd {v : Verdict} (hv : v ≠ .illCmd) :
    check w r n p = v ↔ ∃ i, decode w = .ok i ∧ checkInstr i r.toNat n.toNat p = v := by
  cases hw : decode w with
  | error e => simp [check_of_decode_eq_error hw, hv.symm]
  | ok i => simp [check_of_decode_eq_ok hw]

theorem verdictCode_injective : Function.Injective verdictCode := by
  intro v v'
  cases v <;> cases v' <;> decide

/-- The code of a verdict other than E_ILLCMD, by the command that the word names. -/
theorem code_check_eq_iff {v : Verdict} (hv : v ≠ .illCmd) :
    verdictCode (check w r n p) = verdictCode v ↔
      ∃ i, decode w = .ok i ∧ checkInstr i r.toNat n.toNat p = v :=
  verdictCode_injective.eq_iff.trans (check_eq_iff_of_ne_illCmd hv)

theorem word_toNat_eq_zero_iff (x : Word) : x.toNat = 0 ↔ x = 0 := BitVec.toNat_inj (y := 0)

end

/-- Settles O24: each code is its verdict's, and each verdict's condition is read off the chain of R227. -/
theorem checkReportsFirstCondition : Obligations.CheckReportsFirstCondition := by
  unfold Obligations.CheckReportsFirstCondition
  refine fun w r n p => ⟨verdictCode_injective.eq_iff.trans check_eq_illCmd_iff,
    (code_check_eq_iff (v := .paramR) (by decide)).trans ?_,
    (code_check_eq_iff (v := .paramN) (by decide)).trans ?_,
    (code_check_eq_iff (v := .resBlk) (by decide)).trans ?_,
    (code_check_eq_iff (v := .resV) (by decide)).trans ?_,
    (code_check_eq_iff (v := .accepted) (by decide)).trans ?_⟩
  · simp only [checkInstr_eq_paramR_iff, word_toNat_eq_zero_iff]
  · simp [checkInstr_eq_paramN_iff, word_toNat_eq_zero_iff]
  · simp only [checkInstr_eq_resBlk_iff, word_toNat_eq_zero_iff, ne_eq]
  · simp [checkInstr_eq_resV_iff, word_toNat_eq_zero_iff]
  · simp only [checkInstr_eq_accepted_iff, word_toNat_eq_zero_iff, ne_eq]

/-! ### Rejection -/

theorem commandMove_of_decode_eq_error {w : Word} {e : Illegal} (h : decode w = .error e) {s : State}
    (hidle : s.status.busy = false) : commandMove w s = .next (reject .illCmd s) := by
  simp [commandMove, h, hidle]

/-- Settles O26: a rejected command and an illegal word lead to `reject`, which sets STATUS alone. -/
theorem rejectionChangesOnlyStatus : Obligations.RejectionChangesOnlyStatus := by
  unfold Obligations.RejectionChangesOnlyStatus
  refine ⟨fun i s hidle hreject => exec_of_check_ne_accepted hidle rfl hreject, fun w s hidle hw => ?_⟩
  obtain ⟨e, he⟩ := exists_decode_eq_error_of_no_command hw
  exact commandMove_of_decode_eq_error he hidle

end Sys2Proof.Machine
end

section
/-! PROOFS. The decoder against the encoder and against the opcode table (R90 to R92): a word names a command exactly
when it is the command's word. -/

namespace Sys2Proof.Machine

theorem encodingLaws (i : Instr) : Laws.Encoding.Statement i := by
  cases i with
  | salsa => exact Laws.Encoding.salsa
  | bmix => exact Laws.Encoding.bmix
  | intfy => exact Laws.Encoding.intfy
  | romix => exact Laws.Encoding.romix

theorem decode_encode (i : Instr) : decode (encode i) = .ok i := by
  obtain ⟨-, -, hdecode, -⟩ := encodingLaws i
  exact hdecode

theorem tableDecode_encode (i : Instr) : tableDecode (encode i) = some i := by
  obtain ⟨-, htable, -, -⟩ := encodingLaws i
  exact htable

/-- R92: a word that is no command's word is illegal. -/
theorem exists_decode_eq_error_of_ne_encode {w : Word} (h : ∀ i, w ≠ encode i) : ∃ e, decode w = .error e :=
  exists_decode_eq_error (h .salsa) (h .bmix) (h .intfy) (h .romix)

theorem exists_eq_encode_of_decode_eq_ok {w : Word} {i : Instr} (h : decode w = .ok i) : ∃ k, w = encode k := by
  by_contra hnone
  obtain ⟨e, he⟩ := exists_decode_eq_error_of_ne_encode (not_exists.mp hnone)
  simp [h] at he

theorem decode_eq_ok_iff (w : Word) (i : Instr) : decode w = .ok i ↔ w = encode i := by
  refine ⟨fun h => ?_, fun h => h ▸ decode_encode i⟩
  obtain ⟨k, rfl⟩ := exists_eq_encode_of_decode_eq_ok h
  rw [Except.ok.inj ((decode_encode k).symm.trans h)]

/-- Settles O1: the word of each command decodes to it, and every other word is illegal. -/
theorem decodeIsInverseOfEncode : Obligations.DecodeIsInverseOfEncode := by
  unfold Obligations.DecodeIsInverseOfEncode
  exact decode_eq_ok_iff

/-- R91: each mask of the table takes all bits, and each pattern is the word of the row's command. -/
theorem matches_iff_of_mem_opcodeTable {row : OpcodeRow} (hrow : row ∈ opcodeTable) (w : Word) :
    row.matches w = true ↔ w = encode row.instr := by
  have hfull : row.mask = BitVec.allOnes 32 ∧ row.pattern = encode row.instr := by
    revert row
    decide
  rw [OpcodeRow.matches, hfull.1, hfull.2, BitVec.and_allOnes, beq_iff_eq]

theorem tableDecode_eq_none_of_ne_encode {w : Word} (h : ∀ i, w ≠ encode i) : tableDecode w = none := by
  rw [tableDecode, Option.map_eq_none_iff, List.find?_eq_none]
  exact fun row hrow hmatch => h row.instr ((matches_iff_of_mem_opcodeTable hrow w).mp hmatch)

/-- Settles O3: both decoders give the command on its word, and none on every other word. -/
theorem fieldDecoderIsTableDecoder : Obligations.FieldDecoderIsTableDecoder := by
  unfold Obligations.FieldDecoderIsTableDecoder
  intro w
  by_cases hw : ∃ i, w = encode i
  · obtain ⟨i, rfl⟩ := hw
    rw [decode_encode, tableDecode_encode, Except.toOption]
  · have hne : ∀ i, w ≠ encode i := not_exists.mp hw
    obtain ⟨e, he⟩ := exists_decode_eq_error_of_ne_encode hne
    rw [he, tableDecode_eq_none_of_ne_encode hne, Except.toOption]

/-- Settles O4: each of the first four is the word of its command, each of the others is in the range of its error. -/
theorem writtenWordsDecode : Obligations.WrittenWordsDecode := by
  unfold Obligations.WrittenWordsDecode
  exact ⟨decode_encode .salsa, decode_encode .bmix, decode_encode .intfy, decode_encode .romix,
    (decode_eq_opcode_iff 0).mpr (by decide), (decode_eq_opcode_iff 5).mpr (by decide),
    (decode_eq_zeroField_iff 0x104).mpr (by decide), (decode_eq_zeroField_iff 0xFFFFFFFF).mpr (by decide)⟩

end Sys2Proof.Machine
end

section
/-! PROOFS. What one micro-step does (R183), said once for all labels: the state it leads to, the sequencer's position
as a function of the position before, and what each field is afterwards. -/

namespace Sys2Proof.Machine

/-! ### The state a micro-step leads to -/

/-- The state that the micro-step named by SEQ.MS leads to, if it does not stop (R183). -/
def State.advanced (s : State) : State :=
  match s.seq.ms with
  | .idle => s
  | .kLoadX => (s.drawn.setXs (s.blk.run .blk s.draws 0 16)).goto .sLoad
  | .kStoreX => (s.setBlk (s.blk.writeRun 0 s.xs.toList)).goto .finish
  | .sLoad => (((s.setInB s.xs).setB s.xs).setD 0).goto .sDr
  | .sDr => ((s.setB (doubleRound s.b)).setD (s.seq.d + 1)).goto (if s.seq.d + 1 < 4 then .sDr else .sFf)
  | .sFf => (s.setXs (addBank s.inB s.b)).goto (labelAfterEvaluation s.seq.op)
  | .mInit => ((s.drawn.setXs (s.blk.run .blk s.draws (lastChunkAddr s.rNat) 16)).setC 0).goto .mXor
  | .mXor => (s.drawn.setXs (xorRun s.xs (s.blk.run .blk s.draws (chunkAddr s.seq.c) 16))).goto .sLoad
  | .mStore =>
    ((s.setY (s.y.writeRun (chunkAddr (dst s.seq.c s.rNat)) s.xs.toList)).setC (s.seq.c + 1)).goto
      (if s.seq.c + 1 < 2 * s.rNat then .mXor else .mCommit)
  | .mCommit =>
    (s.drawn.setBlk (s.blk.writeRun 0 (s.y.run .y s.draws 0 (extent s.rNat)).toList)).goto
      (if s.seq.op = .bmix then .finish else .qNext)
  | .fIfy => (s.drawn.setIfy s.lastWord).goto .finish
  | .qInit => ((s.setPass .fill).setI 0).goto .qSnap
  | .qSnap =>
    (s.drawn.setV
      (s.v.writeRun (slotAddr s.seq.i s.rNat) (s.blk.run .blk s.draws 0 (extent s.rNat)).toList)).goto .mInit
  | .qNext => s.setSeq (s.seq.advanced s.nNat)
  | .qIdx =>
    ((s.drawn.setIfy s.lastWord).setJ (BitVec.ofNat 32 (tableIndex s.lastWord s.nNat))).goto .qXor
  | .qXor =>
    (s.drawn.drawn.setBlk (s.blk.writeRun 0 (xorRun (s.blk.run .blk s.draws 0 (extent s.rNat))
      (s.v.run .v (s.draws + 1) (slotAddr s.j.toNat s.rNat) (extent s.rNat))).toList)).goto .mInit
  | .finish => (s.setSeq { s.seq with op := .none, ms := .idle }).setStatus s.status.finished

/-- A micro-step that does not stop leads to `s.advanced`. -/
theorem eq_advanced_of_microStep {s t : State} (h : microStep s = .next t) : t = s.advanced := by
  rw [State.advanced]
  rw [microStep] at h
  cases hms : s.seq.ms <;> rw [hms] at h
  case idle => exact (Host.Outcome.next.inj h).symm
  case kLoadX => exact kLoadX_cases h
  case kStoreX => exact kStoreX_cases h
  case sLoad => exact sLoad_cases h
  case sDr =>
    rcases sDr_cases h with ⟨hd, rfl⟩ | ⟨hd, rfl⟩ <;> simp [hd]
  case sFf =>
    rcases sFf_cases h with ⟨hop, rfl⟩ | ⟨hop | hop, rfl⟩ <;> simp [labelAfterEvaluation, hop]
  case mInit => exact (mInit_cases h).2.2
  case mXor => exact (mXor_cases h).2
  case mStore =>
    rcases (mStore_cases h).2 with ⟨hc, rfl⟩ | ⟨hc, rfl⟩ <;> simp [hc]
  case mCommit =>
    rcases (mCommit_cases h).2 with ⟨hop, rfl⟩ | ⟨hop, rfl⟩ <;> simp [hop]
  case fIfy => exact (fIfy_cases h).2.2
  case qInit => exact qInit_cases h
  case qSnap => exact (qSnap_cases h).2.2
  case qNext =>
    rcases qNext_cases h with ⟨hpass, hi, rfl⟩ | ⟨hpass, hi, rfl⟩ | ⟨hpass, hi, rfl⟩ | ⟨hpass, hi, rfl⟩ <;>
      simp [SeqPos.advanced, hpass, hi, State.setI, State.setPass, State.goto, State.setSeq]
  case qIdx => exact (qIdx_cases h).2.2.2
  case qXor => exact (qXor_cases h).2.2
  case finish => exact finishStep_cases h

/-! ### The sequencer's position -/

/-- R183: the position after a micro-step, from the position before and the parameters. -/
def SeqPos.next (q : SeqPos) (r n : Nat) : SeqPos :=
  match q.ms with
  | .idle => q
  | .kLoadX => { q with ms := .sLoad }
  | .kStoreX => { q with ms := .finish }
  | .sLoad => { q with ms := .sDr, d := 0 }
  | .sDr => { q with ms := if q.d + 1 < 4 then .sDr else .sFf, d := q.d + 1 }
  | .sFf => { q with ms := labelAfterEvaluation q.op }
  | .mInit => { q with ms := .mXor, c := 0 }
  | .mXor => { q with ms := .sLoad }
  | .mStore => { q with ms := if q.c + 1 < 2 * r then .mXor else .mCommit, c := q.c + 1 }
  | .mCommit => { q with ms := if q.op = .bmix then .finish else .qNext }
  | .fIfy => { q with ms := .finish }
  | .qInit => { q with ms := .qSnap, pass := .fill, i := 0 }
  | .qSnap => { q with ms := .mInit }
  | .qNext => q.advanced n
  | .qIdx => { q with ms := .qXor }
  | .qXor => { q with ms := .mInit }
  | .finish => { q with op := .none, ms := .idle }

section
variable (s : State)

theorem advanced_seq : s.advanced.seq = s.seq.next s.rNat s.nNat := by
  rw [State.advanced, SeqPos.next]
  cases s.seq.ms <;> rfl

/-! ### Frames -/

@[simp] theorem advanced_r : s.advanced.r = s.r := by
  rw [State.advanced]
  cases s.seq.ms <;> simp

@[simp] theorem advanced_n : s.advanced.n = s.n := by
  rw [State.advanced]
  cases s.seq.ms <;> simp

@[simp] theorem advanced_params : s.advanced.params = s.params := by
  rw [State.advanced]
  cases s.seq.ms <;> simp

@[simp] theorem advanced_agenda : s.advanced.agenda = s.agenda := by
  rw [State.advanced]
  cases s.seq.ms <;> simp

@[simp] theorem advanced_reply : s.advanced.reply = s.reply := by
  rw [State.advanced]
  cases s.seq.ms <;> simp

@[simp] theorem advanced_rNat : s.advanced.rNat = s.rNat := congrArg BitVec.toNat (advanced_r s)

@[simp] theorem advanced_nNat : s.advanced.nNat = s.nNat := congrArg BitVec.toNat (advanced_n s)

/-- No micro-step reads or writes the agenda. -/
theorem advanced_setAgenda (a : List Event) : (s.setAgenda a).advanced = s.advanced.setAgenda a := by
  rw [State.advanced, State.advanced, setAgenda_seq]
  cases s.seq.ms <;> rfl

end

section
variable {s : State}

theorem advanced_status (h : s.seq.ms ≠ .finish) : s.advanced.status = s.status := by
  rw [State.advanced]
  cases hms : s.seq.ms with
  | finish => exact absurd hms h
  | _ => simp

theorem advanced_ify (h : s.seq.ms ≠ .fIfy) (h' : s.seq.ms ≠ .qIdx) : s.advanced.ify = s.ify := by
  rw [State.advanced]
  cases hms : s.seq.ms with
  | fIfy => exact absurd hms h
  | qIdx => exact absurd hms h'
  | _ => simp

theorem advanced_j (h : s.seq.ms ≠ .qIdx) : s.advanced.j = s.j := by
  rw [State.advanced]
  cases hms : s.seq.ms with
  | qIdx => exact absurd hms h
  | _ => simp

theorem advanced_xs (hload : s.seq.ms ≠ .kLoadX) (hff : s.seq.ms ≠ .sFf) (hinit : s.seq.ms ≠ .mInit)
    (hxor : s.seq.ms ≠ .mXor) : s.advanced.xs = s.xs := by
  rw [State.advanced]
  cases hms : s.seq.ms with
  | kLoadX => exact absurd hms hload
  | sFf => exact absurd hms hff
  | mInit => exact absurd hms hinit
  | mXor => exact absurd hms hxor
  | _ => simp

theorem advanced_inB (h : s.seq.ms ≠ .sLoad) : s.advanced.inB = s.inB := by
  rw [State.advanced]
  cases hms : s.seq.ms with
  | sLoad => exact absurd hms h
  | _ => simp

theorem advanced_b (hload : s.seq.ms ≠ .sLoad) (hdr : s.seq.ms ≠ .sDr) : s.advanced.b = s.b := by
  rw [State.advanced]
  cases hms : s.seq.ms with
  | sLoad => exact absurd hms hload
  | sDr => exact absurd hms hdr
  | _ => simp

theorem advanced_blk (hstore : s.seq.ms ≠ .kStoreX) (hcommit : s.seq.ms ≠ .mCommit) (hxor : s.seq.ms ≠ .qXor) :
    s.advanced.blk = s.blk := by
  rw [State.advanced]
  cases hms : s.seq.ms with
  | kStoreX => exact absurd hms hstore
  | mCommit => exact absurd hms hcommit
  | qXor => exact absurd hms hxor
  | _ => simp

theorem advanced_y (h : s.seq.ms ≠ .mStore) : s.advanced.y = s.y := by
  rw [State.advanced]
  cases hms : s.seq.ms with
  | mStore => exact absurd hms h
  | _ => simp

theorem advanced_v (h : s.seq.ms ≠ .qSnap) : s.advanced.v = s.v := by
  rw [State.advanced]
  cases hms : s.seq.ms with
  | qSnap => exact absurd hms h
  | _ => simp

/-! ### The words stored -/

theorem advanced_blk_of_kStoreX (h : s.seq.ms = .kStoreX) : s.advanced.blk = s.blk.writeRun 0 s.xs.toList := by
  rw [State.advanced, h]
  rfl

theorem advanced_blk_of_mCommit (h : s.seq.ms = .mCommit) :
    s.advanced.blk = s.blk.writeRun 0 (s.y.run .y s.draws 0 (extent s.rNat)).toList := by
  rw [State.advanced, h]
  rfl

theorem advanced_blk_of_qXor (h : s.seq.ms = .qXor) :
    s.advanced.blk = s.blk.writeRun 0 (xorRun (s.blk.run .blk s.draws 0 (extent s.rNat))
      (s.v.run .v (s.draws + 1) (slotAddr s.j.toNat s.rNat) (extent s.rNat))).toList := by
  rw [State.advanced, h]
  rfl

theorem advanced_y_of_mStore (h : s.seq.ms = .mStore) :
    s.advanced.y = s.y.writeRun (chunkAddr (dst s.seq.c s.rNat)) s.xs.toList := by
  rw [State.advanced, h]
  rfl

theorem advanced_v_of_qSnap (h : s.seq.ms = .qSnap) :
    s.advanced.v =
      s.v.writeRun (slotAddr s.seq.i s.rNat) (s.blk.run .blk s.draws 0 (extent s.rNat)).toList := by
  rw [State.advanced, h]
  rfl

/-- M_COMMIT and Q_XOR store to the active extent of BLK alone. -/
theorem keptOutside_advanced_blk (h : s.seq.ms = .mCommit ∨ s.seq.ms = .qXor) :
    Claims.keptOutside s.blk s.advanced.blk 0 (extent s.rNat) := by
  rcases h with hms | hms
  · exact advanced_blk_of_mCommit hms ▸ keptOutside_writeRun s.blk _ le_rfl (Nat.le_refl _)
  · exact advanced_blk_of_qXor hms ▸ keptOutside_writeRun s.blk _ le_rfl (Nat.le_refl _)

end

/-! ### The frame of the position -/

section
variable {q : SeqPos} {r n : Nat}

theorem next_op (h : q.ms ≠ .finish) : (q.next r n).op = q.op := by
  rw [SeqPos.next]
  cases hms : q.ms with
  | finish => exact absurd hms h
  | qNext => exact advanced_op q n
  | _ => rfl

theorem next_pass_i (hinit : q.ms ≠ .qInit) (hnext : q.ms ≠ .qNext) :
    (q.next r n).pass = q.pass ∧ (q.next r n).i = q.i := by
  rw [SeqPos.next]
  cases hms : q.ms with
  | qInit => exact absurd hms hinit
  | qNext => exact absurd hms hnext
  | _ => exact ⟨rfl, rfl⟩

/-- Q_NEXT moves the counters of the pass alone. -/
theorem advanced_c_d (q : SeqPos) (n : Nat) : (q.advanced n).c = q.c ∧ (q.advanced n).d = q.d := by
  unfold SeqPos.advanced
  split
  · split <;> exact ⟨rfl, rfl⟩
  · exact ⟨rfl, rfl⟩

/-- Q_NEXT leads to the next step of a pass or to the end (R176). -/
theorem advanced_ms (q : SeqPos) (n : Nat) :
    (q.advanced n).ms = .qSnap ∨ (q.advanced n).ms = .qIdx ∨ (q.advanced n).ms = .finish := by
  unfold SeqPos.advanced
  split <;> split <;> simp

theorem next_c (hinit : q.ms ≠ .mInit) (hstore : q.ms ≠ .mStore) : (q.next r n).c = q.c := by
  rw [SeqPos.next]
  cases hms : q.ms with
  | mInit => exact absurd hms hinit
  | mStore => exact absurd hms hstore
  | qNext => exact (advanced_c_d q n).1
  | _ => rfl

theorem next_d (hload : q.ms ≠ .sLoad) (hdr : q.ms ≠ .sDr) : (q.next r n).d = q.d := by
  rw [SeqPos.next]
  cases hms : q.ms with
  | sLoad => exact absurd hms hload
  | sDr => exact absurd hms hdr
  | qNext => exact (advanced_c_d q n).2
  | _ => rfl

end

/-! ### The statements -/

/-- Settles O40: the frame of each field of the state and of the position, and the run of words that each storing
micro-step stores. -/
theorem microStepFrame : Obligations.MicroStepFrame := by
  unfold Obligations.MicroStepFrame
  intro s t h
  obtain rfl := eq_advanced_of_microStep h
  rw [advanced_seq]
  refine ⟨⟨advanced_r s, advanced_n s, advanced_params s, advanced_agenda s, advanced_reply s⟩,
    fun hms => ⟨advanced_status hms, next_op hms⟩, advanced_ify, advanced_j, advanced_xs, advanced_inB, advanced_b,
    next_pass_i, next_c, next_d, advanced_blk, fun hms => ?_, keptOutside_advanced_blk, advanced_y, fun hms => ?_,
    advanced_v, fun hms => ?_⟩
  · exact advanced_blk_of_kStoreX hms ▸ keptOutside_writeRun s.blk s.xs le_rfl (Nat.le_refl _)
  · exact advanced_y_of_mStore hms ▸ keptOutside_writeRun s.y s.xs le_rfl (Nat.le_refl _)
  · exact advanced_v_of_qSnap hms ▸ keptOutside_writeRun s.v _ le_rfl (Nat.le_refl _)

section
variable {s t : State} (h : microStep s = .next t)
include h

/-! The rows of the table with a condition: what a micro-step that does not stop says of the counters. -/

theorem sDr_row (hms : s.seq.ms = .sDr) :
    t.seq.d = s.seq.d + 1 ∧ ((t.seq.d < 4 ∧ t.seq.ms = .sDr) ∨ (t.seq.d = 4 ∧ t.seq.ms = .sFf)) := by
  rw [microStep, hms] at h
  rcases sDr_cases h with ⟨hd, rfl⟩ | ⟨hd, rfl⟩
  · exact ⟨rfl, .inl ⟨hd, rfl⟩⟩
  · exact ⟨rfl, .inr ⟨hd, rfl⟩⟩

theorem sFf_row (hms : s.seq.ms = .sFf) :
    (s.seq.op = .salsa ∧ t.seq.ms = .kStoreX) ∨ ((s.seq.op = .bmix ∨ s.seq.op = .romix) ∧ t.seq.ms = .mStore) := by
  rw [microStep, hms] at h
  rcases sFf_cases h with ⟨hop, rfl⟩ | ⟨hop, rfl⟩
  · exact .inl ⟨hop, rfl⟩
  · exact .inr ⟨hop, rfl⟩

theorem mStore_row (hms : s.seq.ms = .mStore) :
    t.seq.c = s.seq.c + 1 ∧
      ((t.seq.c < 2 * s.rNat ∧ t.seq.ms = .mXor) ∨ (t.seq.c = 2 * s.rNat ∧ t.seq.ms = .mCommit)) := by
  rw [microStep, hms] at h
  obtain ⟨-, ⟨hc, rfl⟩ | ⟨hc, rfl⟩⟩ := mStore_cases h
  · exact ⟨rfl, .inl ⟨hc, rfl⟩⟩
  · exact ⟨rfl, .inr ⟨hc, rfl⟩⟩

theorem mCommit_row (hms : s.seq.ms = .mCommit) :
    (s.seq.op = .bmix ∧ t.seq.ms = .finish) ∨ (s.seq.op = .romix ∧ t.seq.ms = .qNext) := by
  rw [microStep, hms] at h
  obtain ⟨-, ⟨hop, rfl⟩ | ⟨hop, rfl⟩⟩ := mCommit_cases h
  · exact .inl ⟨hop, rfl⟩
  · exact .inr ⟨hop, rfl⟩

theorem qNext_row (hms : s.seq.ms = .qNext) :
    (s.seq.pass = .fill ∧ s.seq.i + 1 < s.nNat ∧ t.seq.ms = .qSnap ∧ t.seq.pass = .fill ∧ t.seq.i = s.seq.i + 1) ∨
    (s.seq.pass = .fill ∧ s.seq.i + 1 = s.nNat ∧ t.seq.ms = .qIdx ∧ t.seq.pass = .mix ∧ t.seq.i = 0) ∨
    (s.seq.pass = .mix ∧ s.seq.i + 1 < s.nNat ∧ t.seq.ms = .qIdx ∧ t.seq.pass = .mix ∧ t.seq.i = s.seq.i + 1) ∨
    (s.seq.pass = .mix ∧ s.seq.i + 1 = s.nNat ∧ t.seq.ms = .finish ∧ t.seq.i = s.seq.i + 1) := by
  rw [microStep, hms] at h
  rcases qNext_cases h with ⟨hpass, hi, rfl⟩ | ⟨hpass, hi, rfl⟩ | ⟨hpass, hi, rfl⟩ | ⟨hpass, hi, rfl⟩ <;>
    simp [hpass, hi]

theorem finish_row (hms : s.seq.ms = .finish) :
    t.seq.ms = .idle ∧ t.seq.op = .none ∧ t.status.busy = false ∧ t.status.done = true ∧
      t.status.err = s.status.err := by
  rw [microStep, hms] at h
  obtain rfl := finishStep_cases h
  exact ⟨rfl, rfl, rfl, rfl, rfl⟩

end

/-- Settles O39: the rows without a condition by the position that follows, the others by what their micro-step says of
the counters. -/
theorem sequencerFollowsTable : Obligations.SequencerFollowsTable := by
  unfold Obligations.SequencerFollowsTable
  intro s t h
  have hseq : t.seq = s.seq.next s.rNat s.nNat := eq_advanced_of_microStep h ▸ advanced_seq s
  refine ⟨fun hms => ?_, fun hms => ?_, fun hms => ?_, sDr_row h, sFf_row h, fun hms => ?_, fun hms => ?_,
    fun hms => ?_, mStore_row h, mCommit_row h, fun hms => ?_, fun hms => ?_, fun hms => ?_, qNext_row h, fun hms => ?_,
    fun hms => ?_, finish_row h, fun hms => hseq ▸ next_op hms⟩
  case refine_1 =>
    rw [eq_advanced_of_microStep h, State.advanced, hms]
  all_goals simp [hseq, SeqPos.next, hms]

end Sys2Proof.Machine
end

section
/-! PROOFS. The sequencer positions of R183: from every allowed one the micro-step does not stop (R63, R220), and leads
to an allowed one. -/

namespace Sys2Proof.Machine

/-! ### Positions inside an evaluation and inside a BlockMix -/

section
variable {q : SeqPos} {r n : Nat}

theorem inEvaluation_next (h : inEvaluation q) :
    inEvaluation (q.next r n) ∨ (q.next r n).ms = labelAfterEvaluation q.op := by
  unfold inEvaluation
  rcases h with hms | ⟨hms, hd⟩ | ⟨hms, hd⟩
  · simp [SeqPos.next, hms]
  · by_cases hlast : q.d + 1 < 4
    · simp [SeqPos.next, hms, hlast]
    · have hfour : q.d + 1 = 4 := by omega
      simp [SeqPos.next, hms, hfour]
  · simp [SeqPos.next, hms]

/-- R130: in a command with a BlockMix an evaluation leads to M_STORE. -/
theorem labelAfterEvaluation_of_mixing {op : Op} (hop : op = .bmix ∨ op = .romix) :
    labelAfterEvaluation op = .mStore := by
  rcases hop with rfl | rfl <;> rfl

theorem inEvaluation_ms (h : inEvaluation q) : q.ms = .sLoad ∨ q.ms = .sDr ∨ q.ms = .sFf :=
  h.imp_right (Or.imp And.left And.left)

/-- The labels of a BlockMix (R151 to R156). -/
theorem inBlockMix_ms (h : inBlockMix q r) :
    q.ms = .mInit ∨ q.ms = .mXor ∨ q.ms = .sLoad ∨ q.ms = .sDr ∨ q.ms = .sFf ∨ q.ms = .mStore ∨ q.ms = .mCommit := by
  rcases h with h | ⟨h | h | h, -⟩ | ⟨h, -⟩
  · exact .inl h
  · exact .inr (.inl h)
  · rcases inEvaluation_ms h with h | h | h <;> simp [h]
  · simp [h]
  · simp [h]

theorem inBlockMix_next (hr : 1 ≤ r) (hop : q.op = .bmix ∨ q.op = .romix) (h : inBlockMix q r) :
    inBlockMix (q.next r n) r ∨ (q.next r n).ms = if q.op = .bmix then .finish else .qNext := by
  rcases h with hms | ⟨hms | heval | hms, hc⟩ | ⟨hms, hc⟩
  · have hpos : 0 < 2 * r := by omega
    exact .inl (.inr (.inl (by simp [SeqPos.next, hms, hpos])))
  · exact .inl (.inr (.inl (by simp [SeqPos.next, hms, hc, inEvaluation])))
  · have hkeep : (q.next r n).c = q.c := by
      rcases inEvaluation_ms heval with h | h | h <;> exact next_c (by simp [h]) (by simp [h])
    refine .inl (.inr (.inl ⟨?_, hkeep ▸ hc⟩))
    exact .inr ((inEvaluation_next heval).imp_right (·.trans (labelAfterEvaluation_of_mixing hop)))
  · by_cases hlast : q.c + 1 < 2 * r
    · exact .inl (.inr (.inl (by simp [SeqPos.next, hms, hlast])))
    · have hend : q.c + 1 = 2 * r := by omega
      exact .inl (.inr (.inr (by simp [SeqPos.next, hms, hend])))
  · exact .inr (by simp [SeqPos.next, hms])

end

/-! ### No stop -/

section
variable {s t : State}

theorem microStep_eq_next_advanced (h : microStep s = .next t) : microStep s = .next s.advanced :=
  eq_advanced_of_microStep h ▸ h

theorem microStep_of_inEvaluation (hop : s.seq.op = .salsa ∨ s.seq.op = .bmix ∨ s.seq.op = .romix)
    (h : inEvaluation s.seq) : microStep s = .next s.advanced := by
  rcases h with hms | ⟨hms, hd⟩ | ⟨hms, -⟩
  · exact microStep_eq_next_advanced (microStep_sLoad hms)
  · have hround : microStep s = sDr s := by rw [microStep, hms]
    rw [hround, sDr, State.advanced, hms]
    by_cases hlast : s.seq.d + 1 < 4
    · simp only [hlast, if_true]
    · have hfour : s.seq.d + 1 = 4 := by omega
      simp only [hfour, lt_irrefl, if_true, if_false]
  · have hff : microStep s = sFf s := by rw [microStep, hms]
    rw [hff, sFf, State.advanced, hms]
    rcases hop with hop | hop | hop <;> simp only [hop] <;> rfl

theorem microStep_of_inBlockMix (hfits : blockFits s.rNat s.params) (hop : s.seq.op = .bmix ∨ s.seq.op = .romix)
    (h : inBlockMix s.seq s.rNat) : microStep s = .next s.advanced := by
  rcases h with hms | ⟨hms | heval | hms, hc⟩ | ⟨hms, -⟩
  · exact microStep_eq_next_advanced (microStep_mInit hms hfits)
  · exact microStep_eq_next_advanced (microStep_mXor hms hfits.2 hc)
  · exact microStep_of_inEvaluation (.inr hop) heval
  · exact microStep_eq_next_advanced (microStep_mStore hms hfits.2 hc)
  · exact microStep_eq_next_advanced (microStep_mCommit hms hfits.2 hop)

/-! The positions of R183, command by command. -/

theorem seqLegal_none (hop : s.seq.op = .none) : seqLegal s ↔ s.seq.ms = .idle := by
  rw [seqLegal, hop]

theorem seqLegal_salsa (hop : s.seq.op = .salsa) :
    seqLegal s ↔ s.seq.ms = .kLoadX ∨ inEvaluation s.seq ∨ s.seq.ms = .kStoreX ∨ s.seq.ms = .finish := by
  rw [seqLegal, hop]

theorem seqLegal_bmix (hop : s.seq.op = .bmix) :
    seqLegal s ↔ blockFits s.rNat s.params ∧ (inBlockMix s.seq s.rNat ∨ s.seq.ms = .finish) := by
  rw [seqLegal, hop]

theorem seqLegal_intfy (hop : s.seq.op = .intfy) :
    seqLegal s ↔ blockFits s.rNat s.params ∧ (s.seq.ms = .fIfy ∨ s.seq.ms = .finish) := by
  rw [seqLegal, hop]

/-- The positions inside one of the `n` steps of a pass of ROMIX (R174 to R178). -/
def inRomixStep (q : SeqPos) (r n j : Nat) : Prop :=
  q.i < n ∧ ((q.ms = .qSnap ∧ q.pass = .fill) ∨ inBlockMix q r ∨ q.ms = .qNext ∨ (q.ms = .qIdx ∧ q.pass = .mix) ∨
    (q.ms = .qXor ∧ q.pass = .mix ∧ j < n))

theorem seqLegal_romix (hop : s.seq.op = .romix) :
    seqLegal s ↔ blockFits s.rNat s.params ∧ tableFits s.rNat s.nNat s.params ∧
      (s.seq.ms = .qInit ∨ s.seq.ms = .finish ∨ inRomixStep s.seq s.rNat s.nNat s.j.toNat) := by
  rw [seqLegal, hop]
  rfl

/-- R63, R220: at an allowed position nothing fails. -/
theorem microStep_of_seqLegal (h : seqLegal s) : microStep s = .next s.advanced := by
  have hfinish (hms : s.seq.ms = .finish) : microStep s = .next s.advanced :=
    microStep_eq_next_advanced (microStep_finish hms)
  cases hop : s.seq.op with
  | none =>
    have hms : s.seq.ms = .idle := (seqLegal_none hop).mp h
    exact microStep_eq_next_advanced (t := s) (by rw [microStep, hms])
  | salsa =>
    rcases (seqLegal_salsa hop).mp h with hms | heval | hms | hms
    · exact microStep_eq_next_advanced (microStep_kLoadX hms)
    · exact microStep_of_inEvaluation (.inl hop) heval
    · exact microStep_eq_next_advanced (microStep_kStoreX hms)
    · exact hfinish hms
  | bmix =>
    obtain ⟨hfits, hmix | hms⟩ := (seqLegal_bmix hop).mp h
    · exact microStep_of_inBlockMix hfits (.inl hop) hmix
    · exact hfinish hms
  | intfy =>
    obtain ⟨hfits, hms | hms⟩ := (seqLegal_intfy hop).mp h
    · exact microStep_eq_next_advanced (microStep_fIfy hms hfits)
    · exact hfinish hms
  | romix =>
    obtain ⟨hfits, htable, hms | hms | ⟨hi, ⟨hms, -⟩ | hmix | hms | ⟨hms, -⟩ | ⟨hms, -, hj⟩⟩⟩ :=
      (seqLegal_romix hop).mp h
    · exact microStep_eq_next_advanced (microStep_qInit hms)
    · exact hfinish hms
    · exact microStep_eq_next_advanced (microStep_qSnap hms hfits.2 htable hi)
    · exact microStep_of_inBlockMix hfits (.inr hop) hmix
    · exact microStep_eq_next_advanced (microStep_qNext hms hi)
    · exact microStep_eq_next_advanced (microStep_qIdx hms hfits htable.1)
    · exact microStep_eq_next_advanced (microStep_qXor hms hfits.2 htable hj)

/-! ### An allowed position leads to an allowed one -/

theorem advanced_seq_op (h : s.seq.ms ≠ .finish) : s.advanced.seq.op = s.seq.op := by
  rw [advanced_seq, next_op h]

theorem advanced_of_finish (h : s.seq.ms = .finish) : s.advanced = s.finished := by
  rw [State.advanced, h]
  rfl

theorem seqLegal_advanced_of_finish (h : s.seq.ms = .finish) : seqLegal s.advanced := by
  rw [advanced_of_finish h]
  exact (seqLegal_none rfl).mpr rfl

theorem advanced_j_of_qIdx (h : s.seq.ms = .qIdx) : s.advanced.j.toNat = tableIndex s.lastWord s.nNat := by
  rw [State.advanced, h]
  exact tableIndex_ofNat_toNat s.lastWord s.nNat

/-- A step of a pass goes on, or the next one begins, or the pass or the command ends (R176). -/
theorem inRomixStep_advanced (hop : s.seq.op = .romix) (hr : 1 ≤ s.rNat)
    (h : inRomixStep s.seq s.rNat s.nNat s.j.toNat) :
    s.advanced.seq.ms = .finish ∨ inRomixStep s.advanced.seq s.rNat s.nNat s.advanced.j.toNat := by
  obtain ⟨hi, hat⟩ := h
  have hn : 0 < s.nNat := by omega
  rw [advanced_seq]
  rcases hat with ⟨hms, -⟩ | hmix | hms | ⟨hms, hpass⟩ | ⟨hms, -, -⟩
  · exact .inr ⟨by simp [SeqPos.next, hms, hi], .inr (.inl (.inl (by simp [SeqPos.next, hms])))⟩
  · have hkeep : (s.seq.next s.rNat s.nNat).i = s.seq.i := by
      rcases inBlockMix_ms hmix with h | h | h | h | h | h | h <;> exact (next_pass_i (by simp [h]) (by simp [h])).2
    have hgoes : inBlockMix (s.seq.next s.rNat s.nNat) s.rNat ∨ (s.seq.next s.rNat s.nNat).ms = .qNext := by
      simpa [hop] using inBlockMix_next (n := s.nNat) hr (.inr hop) hmix
    exact .inr ⟨hkeep ▸ hi, .inr (hgoes.imp_right .inl)⟩
  · have hnext : s.seq.next s.rNat s.nNat = s.seq.advanced s.nNat := by rw [SeqPos.next, hms]
    rw [hnext]
    unfold inRomixStep SeqPos.advanced
    by_cases hlast : s.seq.i + 1 < s.nNat
    · cases hpass : s.seq.pass <;> simp [hlast]
    · cases hpass : s.seq.pass <;> simp [hlast, hn]
  · have hj : s.advanced.j.toNat < s.nNat := advanced_j_of_qIdx hms ▸ tableIndex_lt _ hn
    exact .inr ⟨by simp [SeqPos.next, hms, hi], by simp [SeqPos.next, hms, hpass, hj]⟩
  · exact .inr ⟨by simp [SeqPos.next, hms, hi], .inr (.inl (.inl (by simp [SeqPos.next, hms])))⟩

theorem seqLegal_advanced (h : seqLegal s) : seqLegal s.advanced := by
  by_cases hfinish : s.seq.ms = .finish
  · exact seqLegal_advanced_of_finish hfinish
  have hop' : s.advanced.seq.op = s.seq.op := advanced_seq_op hfinish
  have hseq : s.advanced.seq = s.seq.next s.rNat s.nNat := advanced_seq s
  cases hop : s.seq.op with
  | none =>
    have hms : s.seq.ms = .idle := (seqLegal_none hop).mp h
    exact (seqLegal_none (hop'.trans hop)).mpr (by simp [hseq, SeqPos.next, hms])
  | salsa =>
    rw [seqLegal_salsa (hop'.trans hop), hseq]
    rcases (seqLegal_salsa hop).mp h with hms | heval | hms | hms
    · exact .inr (.inl (.inl (by simp [SeqPos.next, hms])))
    · have hafter : labelAfterEvaluation s.seq.op = .kStoreX := by rw [hop]; rfl
      exact .inr ((inEvaluation_next heval).imp_right fun hms => .inl (hms.trans hafter))
    · exact .inr (.inr (.inr (by simp [SeqPos.next, hms])))
    · exact absurd hms hfinish
  | bmix =>
    rw [seqLegal_bmix (hop'.trans hop), advanced_rNat, advanced_params, hseq]
    obtain ⟨hfits, hmix | hms⟩ := (seqLegal_bmix hop).mp h
    · exact ⟨hfits, by simpa [hop] using inBlockMix_next (n := s.nNat) hfits.1 (.inl hop) hmix⟩
    · exact absurd hms hfinish
  | intfy =>
    rw [seqLegal_intfy (hop'.trans hop), advanced_rNat, advanced_params, hseq]
    obtain ⟨hfits, hms | hms⟩ := (seqLegal_intfy hop).mp h
    · exact ⟨hfits, .inr (by simp [SeqPos.next, hms])⟩
    · exact absurd hms hfinish
  | romix =>
    rw [seqLegal_romix (hop'.trans hop), advanced_rNat, advanced_nNat, advanced_params]
    obtain ⟨hfits, htable, hms | hms | hstep⟩ := (seqLegal_romix hop).mp h
    · have hbegun : s.advanced.seq = { s.seq with ms := .qSnap, pass := .fill, i := 0 } := by
        simp only [hseq, SeqPos.next, hms]
      rw [hbegun]
      exact ⟨hfits, htable, .inr (.inr ⟨htable.1, .inl ⟨rfl, rfl⟩⟩)⟩
    · exact absurd hms hfinish
    · exact ⟨hfits, htable, .inr (inRomixStep_advanced hop hfits.1 hstep)⟩

/-! ### Runs -/

theorem seqLegal_iterate_advanced (h : seqLegal s) (count : Nat) : seqLegal (State.advanced^[count] s) := by
  induction count with
  | zero => exact h
  | succ count ih =>
    rw [Function.iterate_succ_apply']
    exact seqLegal_advanced ih

/-- From an allowed position every number of micro-steps leads on. -/
theorem microSteps_of_seqLegal (h : seqLegal s) (count : Nat) :
    microSteps count s = .next (State.advanced^[count] s) := by
  induction count generalizing s with
  | zero => rfl
  | succ count ih =>
    rw [microSteps_succ_of_next (microStep_of_seqLegal h), ih (seqLegal_advanced h), Function.iterate_succ_apply]

/-- R205: an accepted command is at its first label, with parameters that the check has let through. -/
theorem seqLegal_accept {i : Instr} (h : checkInstr i s.rNat s.nNat s.params = .accepted) : seqLegal (accept i s) := by
  obtain ⟨hblk, htable⟩ := checkInstr_eq_accepted_iff.mp h
  have hfits (hi : i ≠ .salsa) : blockFits s.rNat s.params := ⟨Nat.one_le_iff_ne_zero.mpr (hblk hi).1, (hblk hi).2⟩
  cases i with
  | salsa => exact .inl rfl
  | bmix => exact ⟨hfits (by decide), .inl (.inl rfl)⟩
  | intfy => exact ⟨hfits (by decide), .inl rfl⟩
  | romix =>
    obtain ⟨hn, hsize⟩ := htable rfl
    exact ⟨hfits (by decide), ⟨Nat.one_le_iff_ne_zero.mpr hn, hsize⟩, .inl rfl⟩

end

end Sys2Proof.Machine
end

section
/-! PROOFS. What one move can do (R200, R231), and the induction over moves: a property that no micro-step and no host
move destroys holds after every step. With it, the legal states (R23, R60, R183). -/

namespace Sys2Proof.Machine

/-! ### One host access -/

section
variable {s t : State}

theorem issueIdle_cases (w : Word) (s : State) :
    (∃ i, checkInstr i s.rNat s.nNat s.params = .accepted ∧ issueIdle w s = accept i s) ∨
      ∃ v, v ≠ .accepted ∧ issueIdle w s = reject v s := by
  by_cases hcheck : check w s.r s.n s.params = .accepted
  · obtain ⟨i, hw⟩ := exists_decode_eq_ok_of_accepted hcheck
    exact .inl ⟨i, (check_of_decode_eq_ok hw ..).symm.trans hcheck, issueIdle_of_accepted hw hcheck⟩
  · exact .inr ⟨_, hcheck, issueIdle_of_not_accepted hcheck⟩

/-- R201: a read of a CSR is an answer, with a word that is specified or not, and nothing else. -/
theorem readCsr_cases (i : Nat) (s : State) :
    (∃ w, readCsr i s = answer w s) ∨ ∃ src, readCsr i s = answerUnspecified src i s := by
  by_cases hi : i = 1
  · exact .inl ⟨_, hi ▸ readCsr_status s⟩
  · cases hbusy : s.status.busy with
    | true => exact .inr ⟨_, readCsr_of_busy hbusy hi⟩
    | false => exact .inl ⟨_, readCsr_of_idle hbusy i⟩

/-- R202: a write of a CSR issues a command, stores R or N, or is ignored. -/
theorem writeCsr_cases (i : Nat) (v : Word) (s : State) :
    writeCsr i v s = s ∨ s.status.busy = false ∧
      ((i = 0 ∧ writeCsr i v s = issueIdle v s) ∨ writeCsr i v s = s.setR v ∨ writeCsr i v s = s.setN v) := by
  cases hbusy : s.status.busy with
  | true => exact .inl (writeCsr_of_busy hbusy i v)
  | false =>
    by_cases hi : i = 1 ∨ 4 ≤ i
    · exact .inl (writeCsr_readOnly hi v s)
    · obtain rfl | rfl | rfl : i = 0 ∨ i = 2 ∨ i = 3 := by omega
      · exact .inr ⟨rfl, .inl ⟨rfl, hostAccess_wcsr_cmd_of_idle hbusy v⟩⟩
      · exact .inr ⟨rfl, .inr (.inl (writeCsr_r hbusy v))⟩
      · exact .inr ⟨rfl, .inr (.inr (writeCsr_n hbusy v))⟩

/-- R204: a write of a block word stores it, while idle and inside BLK, or is ignored. -/
theorem storeBlk_cases (a : Nat) (v : Word) (s : State) :
    storeBlk a v s = s ∨
      s.status.busy = false ∧ a < s.params.blkWords ∧ storeBlk a v s = s.setBlk (s.blk.write a v) := by
  cases hbusy : s.status.busy with
  | true => exact .inl (storeBlk_of_busy hbusy a v)
  | false =>
    by_cases ha : a < s.params.blkWords
    · exact .inr ⟨rfl, ha, storeBlk_inside hbusy ha v⟩
    · exact .inl (storeBlk_outside (by omega) v)

/-- A state with the word that a read returned, and the number of the draw after it, recorded. -/
def State.recorded (s : State) (reply : Option Word) (draws : Nat) : State := (s.setReply reply).setDraws draws

theorem readCsr_eq_recorded (i : Nat) (s : State) : ∃ w d, readCsr i s = s.recorded w d := by
  obtain ⟨w, hw⟩ | ⟨src, hsrc⟩ := readCsr_cases i s
  · exact ⟨some w, s.draws, hw⟩
  · exact ⟨_, _, hsrc⟩

theorem readBlk_eq_recorded (a : Nat) (s : State) : ∃ w d, readBlk a s = s.recorded w d := by
  obtain ⟨w, hw⟩ | ⟨src, hsrc⟩ := readBlk_cases a s
  · exact ⟨some w, s.draws, hw⟩
  · exact ⟨_, _, hsrc⟩

/-- R200: everything a host access can do. An access that is ignored leaves the record as it is. -/
theorem hostAccess_cases (a : Access) (s : State) :
    (∃ w d, hostAccess a s = s.recorded w d) ∨ s.status.busy = false ∧
      ((∃ v, a = .wcsr 0 v ∧ hostAccess a s = issueIdle v s) ∨ (∃ v, hostAccess a s = s.setR v) ∨
        (∃ v, hostAccess a s = s.setN v) ∨
        ∃ b v, b < s.params.blkWords ∧ hostAccess a s = s.setBlk (s.blk.write b v)) := by
  cases a with
  | rcsr i => exact .inl (readCsr_eq_recorded i s)
  | wcsr i v =>
    obtain h | ⟨hidle, ⟨rfl, h⟩ | h | h⟩ := writeCsr_cases i v s
    · exact .inl ⟨s.reply, s.draws, h⟩
    · exact .inr ⟨hidle, .inl ⟨v, rfl, h⟩⟩
    · exact .inr ⟨hidle, .inr (.inl ⟨v, h⟩)⟩
    · exact .inr ⟨hidle, .inr (.inr (.inl ⟨v, h⟩))⟩
  | rblk b => exact .inl (readBlk_eq_recorded b s)
  | wblk b v =>
    obtain h | ⟨hidle, hb, h⟩ := storeBlk_cases b v s
    · exact .inl ⟨s.reply, s.draws, h⟩
    · exact .inr ⟨hidle, .inr (.inr (.inr ⟨b, v, hb, h⟩))⟩

/-! ### One move -/

theorem exec_of_busy (hbusy : s.status.busy = true) (i : Instr) : exec i s = .next s := by
  rw [exec_eq_commandAtomic, commandAtomic, if_pos hbusy]

theorem exec_of_accepted {i : Instr} (hidle : s.status.busy = false)
    (hcheck : checkInstr i s.rNat s.nNat s.params = .accepted) :
    exec i s = .next (State.advanced^[microStepCount i s.rNat s.nNat] (accept i s)) := by
  rw [exec_eq_commandAtomic, commandAtomic_accepted hidle hcheck, microSteps_of_seqLegal (seqLegal_accept hcheck)]

/-- A whole command is ignored, rejected, or accepted and run. -/
theorem exec_cases (i : Instr) (s : State) :
    (s.status.busy = true ∧ exec i s = .next s) ∨
    (s.status.busy = false ∧ ∃ v, v ≠ .accepted ∧ exec i s = .next (reject v s)) ∨
    (s.status.busy = false ∧ checkInstr i s.rNat s.nNat s.params = .accepted ∧
      exec i s = .next (State.advanced^[microStepCount i s.rNat s.nNat] (accept i s))) := by
  cases hbusy : s.status.busy with
  | true => exact .inl ⟨rfl, exec_of_busy hbusy i⟩
  | false =>
    by_cases hcheck : checkInstr i s.rNat s.nNat s.params = .accepted
    · exact .inr (.inr ⟨rfl, hcheck, exec_of_accepted hbusy hcheck⟩)
    · exact .inr (.inl ⟨rfl, _, hcheck, exec_of_check_ne_accepted hbusy rfl hcheck⟩)

theorem commandMove_of_decode_eq_ok {w : Word} {i : Instr} (h : decode w = .ok i) (s : State) :
    commandMove w s = exec i s := by
  rw [commandMove, h]

theorem commandMove_of_busy (hbusy : s.status.busy = true) (w : Word) : commandMove w s = .next s := by
  cases hw : decode w with
  | ok i => rw [commandMove_of_decode_eq_ok hw, exec_of_busy hbusy]
  | error e => simp [commandMove, hw, hbusy]

theorem step_of_agenda_nil (h : s.agenda = []) : step s = microStep s := by
  rw [step, nextMove, h]

theorem step_of_agenda_cons {e : Event} {rest : List Event} (h : s.agenda = e :: rest) :
    step s = move e (s.setAgenda rest) := by
  rw [step, nextMove, h]

/-! ### The induction over moves -/

/-- No micro-step and no host move, taken where the model takes it, leads from a state of `P` to one outside it. -/
structure KeptByMoves (P : State → Prop) : Prop where
  agenda : ∀ s a, P s → P (s.setAgenda a)
  recorded : ∀ s w d, P s → P (s.recorded w d)
  advanced : ∀ s, P s → microStep s = .next s.advanced → P s.advanced
  accept : ∀ i s, s.status.busy = false → checkInstr i s.rNat s.nNat s.params = .accepted → P s → P (accept i s)
  reject : ∀ v s, s.status.busy = false → v ≠ .accepted → P s → P (reject v s)
  setR : ∀ s v, s.status.busy = false → P s → P (s.setR v)
  setN : ∀ s v, s.status.busy = false → P s → P (s.setN v)
  write : ∀ s a v, s.status.busy = false → a < s.params.blkWords → P s → P (s.setBlk (s.blk.write a v))
  reset : ∀ s, P s → P (resetEvent s)

section
variable {P : State → Prop} (hP : KeptByMoves P)
include hP

theorem KeptByMoves.microStep (hs : P s) (h : microStep s = .next t) : P t := by
  obtain rfl := eq_advanced_of_microStep h
  exact hP.advanced s hs h

theorem KeptByMoves.issueIdle (hidle : s.status.busy = false) (hs : P s) (w : Word) : P (issueIdle w s) := by
  obtain ⟨i, hcheck, h⟩ | ⟨v, hv, h⟩ := issueIdle_cases w s
  · exact h ▸ hP.accept i s hidle hcheck hs
  · exact h ▸ hP.reject v s hidle hv hs

theorem KeptByMoves.hostAccess (hs : P s) (a : Access) : P (hostAccess a s) := by
  obtain ⟨w, d, h⟩ | ⟨hidle, ⟨v, -, h⟩ | ⟨v, h⟩ | ⟨v, h⟩ | ⟨b, v, hb, h⟩⟩ := hostAccess_cases a s
  · exact h ▸ hP.recorded s w d hs
  · exact h ▸ hP.issueIdle hidle hs v
  · exact h ▸ hP.setR s v hidle hs
  · exact h ▸ hP.setN s v hidle hs
  · exact h ▸ hP.write s b v hidle hb hs

/-- An accepted command keeps `P` at every one of its micro-steps. -/
theorem KeptByMoves.iterate_advanced (hs : P s) (hlegal : seqLegal s) (count : Nat) :
    P (State.advanced^[count] s) := by
  induction count with
  | zero => exact hs
  | succ count ih =>
    rw [Function.iterate_succ_apply']
    exact hP.advanced _ ih (microStep_of_seqLegal (seqLegal_iterate_advanced hlegal count))

theorem KeptByMoves.exec (hs : P s) {i : Instr} (h : exec i s = .next t) : P t := by
  obtain ⟨-, hexec⟩ | ⟨hidle, v, hv, hexec⟩ | ⟨hidle, hcheck, hexec⟩ := exec_cases i s
  all_goals obtain rfl := Host.Outcome.next.inj (hexec.symm.trans h)
  · exact hs
  · exact hP.reject v s hidle hv hs
  · exact hP.iterate_advanced (hP.accept i s hidle hcheck hs) (seqLegal_accept hcheck) _

theorem KeptByMoves.commandMove (hs : P s) {w : Word} (h : commandMove w s = .next t) : P t := by
  cases hw : decode w with
  | ok i => exact hP.exec hs (commandMove_of_decode_eq_ok hw s ▸ h)
  | error e =>
    cases hbusy : s.status.busy with
    | true => exact Host.Outcome.next.inj ((commandMove_of_busy hbusy w).symm.trans h) ▸ hs
    | false =>
      obtain rfl := Host.Outcome.next.inj ((commandMove_of_decode_eq_error hw hbusy).symm.trans h)
      exact hP.reject .illCmd s hbusy (by decide) hs

theorem KeptByMoves.pollStep (hs : P s) (h : pollStep s = .next t) : P t := by
  unfold Machine.pollStep at h
  split at h
  · exact hP.microStep (hP.agenda s _ hs) h
  · obtain rfl := Host.Outcome.next.inj h
    exact hP.hostAccess hs (.rcsr 1)

theorem KeptByMoves.move (hs : P s) {e : Event} (h : move e s = .next t) : P t := by
  cases e with
  | host a => exact Host.Outcome.next.inj h ▸ hP.hostAccess hs a
  | engine => exact hP.microStep hs h
  | command w => exact hP.commandMove hs h
  | wait => exact hP.pollStep hs h
  | reset => exact Host.Outcome.next.inj h ▸ hP.reset s hs

/-- Every step keeps what every move keeps. -/
theorem KeptByMoves.step (hs : P s) (h : step s = .next t) : P t := by
  cases hagenda : s.agenda with
  | nil => exact hP.microStep hs (step_of_agenda_nil hagenda ▸ h)
  | cons e rest => exact hP.move (hP.agenda s rest hs) (step_of_agenda_cons hagenda ▸ h)

end

/-! ### Legal states -/

theorem LegalState.seqLegal (h : LegalState s) : seqLegal s := by
  obtain ⟨-, -, hseq, -⟩ := h
  exact hseq

theorem LegalState.busy_iff (h : LegalState s) : s.status.busy = true ↔ s.seq.op ≠ .none := by
  obtain ⟨-, hbusy, -, -⟩ := h
  exact hbusy

/-- In a legal state an idle engine has no command in progress. -/
theorem LegalState.op_of_idle (h : LegalState s) (hidle : s.status.busy = false) : s.seq.op = .none := by
  by_contra hop
  simp [h.busy_iff.mpr hop] at hidle

/-- R23: with BUSY set, STATUS is that of a running command. -/
theorem status_eq_running {st : Status} (h : st.legal) (hbusy : st.busy = true) : st = .running := by
  obtain rfl | rfl | rfl | ⟨h, -⟩ := h
  · simp [Status.initial] at hbusy
  · rfl
  · simp at hbusy
  · rw [h] at hbusy
    simp [Status.rejected] at hbusy

theorem status_legal_rejected {v : Verdict} (hv : v ≠ .accepted) : (Status.rejected (verdictCode v)).legal := by
  refine .inr (.inr (.inr ⟨rfl, ?_⟩))
  cases v with
  | accepted => exact absurd rfl hv
  | _ => decide

/-- At FINISH a command is in progress. -/
theorem seqLegal_finish_op (h : seqLegal s) (hms : s.seq.ms = .finish) : s.seq.op ≠ .none := fun hop => by
  simp [(seqLegal_none hop).mp h] at hms

/-- R60: a run of words stored inside a space keeps the memory canonical and inside it. -/
theorem wf_within_writeRun {m : Memory} {a count size : Nat} (hwf : m.wf) (hin : m.within size)
    (ws : Vector Word count) (h : a + count ≤ size) :
    (m.writeRun a ws.toList).wf ∧ (m.writeRun a ws.toList).within size :=
  ⟨wf_writeRun hwf a _, within_writeRun hin (by rwa [Vector.length_toList])⟩

section
variable (hstep : microStep s = .next s.advanced)
include hstep

theorem blk_wf_within_advanced (hwf : s.blk.wf) (hin : s.blk.within s.params.blkWords) :
    s.advanced.blk.wf ∧ s.advanced.blk.within s.params.blkWords := by
  rw [microStep] at hstep
  cases hms : s.seq.ms <;> rw [hms] at hstep
  case kStoreX =>
    rw [advanced_blk_of_kStoreX hms]
    exact wf_within_writeRun hwf hin s.xs ((Nat.zero_add _).trans_le (sixteen_le_blkWords s.params))
  case mCommit =>
    rw [advanced_blk_of_mCommit hms]
    exact wf_within_writeRun hwf hin _ ((Nat.zero_add _).trans_le (mCommit_cases hstep).1)
  case qXor =>
    rw [advanced_blk_of_qXor hms]
    exact wf_within_writeRun hwf hin _ ((Nat.zero_add _).trans_le (qXor_cases hstep).1)
  all_goals
    rw [advanced_blk (by simp [hms]) (by simp [hms]) (by simp [hms])]
    exact ⟨hwf, hin⟩

theorem y_wf_within_advanced (hwf : s.y.wf) (hin : s.y.within s.params.blkWords) :
    s.advanced.y.wf ∧ s.advanced.y.within s.params.blkWords := by
  by_cases hms : s.seq.ms = .mStore
  · rw [microStep, hms] at hstep
    rw [advanced_y_of_mStore hms]
    exact wf_within_writeRun hwf hin s.xs (mStore_cases hstep).1
  · rw [advanced_y hms]
    exact ⟨hwf, hin⟩

theorem v_wf_within_advanced (hwf : s.v.wf) (hin : s.v.within s.params.vWords) :
    s.advanced.v.wf ∧ s.advanced.v.within s.params.vWords := by
  by_cases hms : s.seq.ms = .qSnap
  · rw [microStep, hms] at hstep
    rw [advanced_v_of_qSnap hms]
    exact wf_within_writeRun hwf hin _ (qSnap_cases hstep).2.1
  · rw [advanced_v hms]
    exact ⟨hwf, hin⟩

theorem memoriesLegal_advanced (h : memoriesLegal s.blk s.y s.v s.params) :
    memoriesLegal s.advanced.blk s.advanced.y s.advanced.v s.advanced.params := by
  obtain ⟨hblk, hy, hv, hblkIn, hyIn, hvIn⟩ := h
  obtain ⟨hblk', hblkIn'⟩ := blk_wf_within_advanced hstep hblk hblkIn
  obtain ⟨hy', hyIn'⟩ := y_wf_within_advanced hstep hy hyIn
  obtain ⟨hv', hvIn'⟩ := v_wf_within_advanced hstep hv hvIn
  rw [advanced_params]
  exact ⟨hblk', hy', hv', hblkIn', hyIn', hvIn'⟩

end

theorem legalState_advanced (h : LegalState s) : LegalState s.advanced := by
  obtain ⟨hstatus, hbusy, hseq, hmem⟩ := h
  have hmem' := memoriesLegal_advanced (microStep_of_seqLegal hseq) hmem
  by_cases hfinish : s.seq.ms = .finish
  · have hrunning : s.status = .running := status_eq_running hstatus (hbusy.mpr (seqLegal_finish_op hseq hfinish))
    have hdone : s.advanced.status = ⟨false, true, 0⟩ := by
      rw [advanced_of_finish hfinish]
      exact congrArg Status.finished hrunning
    have hnone : s.advanced.seq.op = .none := by rw [advanced_of_finish hfinish]; rfl
    refine ⟨.inr (.inr (.inl hdone)), ?_, seqLegal_advanced hseq, hmem'⟩
    simp [hdone, hnone]
  · have hop : s.advanced.seq.op = s.seq.op := advanced_seq_op hfinish
    rw [← advanced_status hfinish] at hstatus hbusy
    exact ⟨hstatus, hop ▸ hbusy, seqLegal_advanced hseq, hmem'⟩

theorem legalState_accept {i : Instr} (hcheck : checkInstr i s.rNat s.nNat s.params = .accepted) (h : LegalState s) :
    LegalState (accept i s) := by
  obtain ⟨-, -, -, hmem⟩ := h
  have hop : opOf i ≠ .none := by cases i <;> decide
  exact ⟨.inr (.inl rfl), iff_of_true rfl hop, seqLegal_accept hcheck, hmem⟩

/-- While idle the position says only that nothing runs, whatever R and N hold. -/
theorem seqLegal_of_idle (h : LegalState s) (hidle : s.status.busy = false) (hseq : t.seq = s.seq) : seqLegal t := by
  have hop : s.seq.op = .none := h.op_of_idle hidle
  exact (seqLegal_none (hseq ▸ hop)).mpr (hseq ▸ (seqLegal_none hop).mp h.seqLegal)

theorem legalState_reject {v : Verdict} (hidle : s.status.busy = false) (hv : v ≠ .accepted) (h : LegalState s) :
    LegalState (reject v s) := by
  have hseq : seqLegal (reject v s) := seqLegal_of_idle h hidle rfl
  have hop : (reject v s).seq.op = .none := h.op_of_idle hidle
  obtain ⟨-, -, -, hmem⟩ := h
  exact ⟨status_legal_rejected hv, iff_of_false Bool.false_ne_true (not_not.mpr hop), hseq, hmem⟩

theorem memoriesLegal_nil (p : Params) : memoriesLegal [] [] [] p := by
  simp [memoriesLegal]

theorem legalState_afterReset (p : Params) (draw : Nat) (agenda : List Event) (reply : Option Word) :
    LegalState (.afterReset p draw agenda reply) :=
  ⟨.inl rfl, iff_of_false Bool.false_ne_true (not_not.mpr rfl), (seqLegal_none rfl).mpr rfl, memoriesLegal_nil p⟩

theorem keptByMoves_legalState : KeptByMoves LegalState where
  agenda _ _ h := h
  recorded _ _ _ h := h
  advanced _ h _ := legalState_advanced h
  accept _ _ _ hcheck h := legalState_accept hcheck h
  reject _ _ hidle hv h := legalState_reject hidle hv h
  setR s v hidle h := by
    have hseq : seqLegal (s.setR v) := seqLegal_of_idle h hidle rfl
    obtain ⟨hstatus, hbusy, -, hmem⟩ := h
    exact ⟨hstatus, hbusy, hseq, hmem⟩
  setN s v hidle h := by
    have hseq : seqLegal (s.setN v) := seqLegal_of_idle h hidle rfl
    obtain ⟨hstatus, hbusy, -, hmem⟩ := h
    exact ⟨hstatus, hbusy, hseq, hmem⟩
  write s a v hidle ha h := by
    have hseq : seqLegal (s.setBlk (s.blk.write a v)) := seqLegal_of_idle h hidle rfl
    obtain ⟨hstatus, hbusy, -, hblk, hy, hv, hblkIn, hyIn, hvIn⟩ := h
    exact ⟨hstatus, hbusy, hseq, wf_write hblk a v, hy, hv, within_write hblkIn ha v, hyIn, hvIn⟩
  reset s _ := legalState_afterReset s.params s.draws s.agenda s.reply

/-- Settles O43: no micro-step and no host move leads out of the legal states. -/
theorem stepKeepsInvariant : Obligations.StepKeepsInvariant := by
  unfold Obligations.StepKeepsInvariant
  exact fun s t hs h => keptByMoves_legalState.step hs h

/-! ### No stop -/

theorem exists_exec_eq_next (i : Instr) (s : State) : ∃ t, exec i s = .next t := by
  obtain ⟨-, h⟩ | ⟨-, v, -, h⟩ | ⟨-, -, h⟩ := exec_cases i s <;> exact ⟨_, h⟩

theorem exists_commandMove_eq_next (w : Word) (s : State) : ∃ t, commandMove w s = .next t := by
  cases hw : decode w with
  | ok i => exact commandMove_of_decode_eq_ok hw s ▸ exists_exec_eq_next i s
  | error e => exact ⟨_, by rw [commandMove, hw]⟩

theorem exists_pollStep_eq_next (h : seqLegal s) : ∃ t, pollStep s = .next t := by
  unfold pollStep
  split
  · exact ⟨_, microStep_of_seqLegal (s := s.setAgenda (.wait :: s.agenda)) h⟩
  · exact ⟨_, rfl⟩

theorem exists_move_eq_next (h : seqLegal s) (e : Event) : ∃ t, move e s = .next t := by
  cases e with
  | host a => exact ⟨_, rfl⟩
  | engine => exact ⟨_, microStep_of_seqLegal h⟩
  | command w => exact exists_commandMove_eq_next w s
  | wait => exact exists_pollStep_eq_next h
  | reset => exact ⟨_, rfl⟩

/-- R63, R220: from an allowed position every move leads on. -/
theorem exists_step_eq_next (h : seqLegal s) : ∃ t, step s = .next t := by
  cases hagenda : s.agenda with
  | nil => exact ⟨_, step_of_agenda_nil hagenda ▸ microStep_of_seqLegal h⟩
  | cons e rest => exact step_of_agenda_cons hagenda ▸ exists_move_eq_next (s := s.setAgenda rest) h e

theorem steps_succ_of_next (h : step s = .next t) (count : Nat) : steps (count + 1) s = steps count t := by
  rw [steps, h, andThen_next]

/-- Settles O44: a step from a legal state leads on, to a legal state, from which the rest of the run leads on. -/
theorem legalStatesNeverStop : Obligations.LegalStatesNeverStop := by
  unfold Obligations.LegalStatesNeverStop
  intro s count
  induction count generalizing s with
  | zero => exact fun _ => ⟨s, rfl⟩
  | succ count ih =>
    intro hs
    obtain ⟨t, ht⟩ := exists_step_eq_next hs.seqLegal
    obtain ⟨u, hu⟩ := ih t (keptByMoves_legalState.step hs ht)
    exact ⟨u, (steps_succ_of_next ht count).trans hu⟩

end

end Sys2Proof.Machine
end

section
/-! PROOFS. The words of V and Y that a running command has stored (R72, R160, R187): which addresses they are, and that
every step keeps them written; so Q_XOR and M_COMMIT read written words. -/

namespace Sys2Proof.Machine

/-! ### Sets of addresses -/

/-- The addresses in Y of the chunks that a BlockMix stores for the counters below `c` (R155). -/
def storedBelow (r c a : Nat) : Prop := ∃ i < c, ∃ k < 16, a = chunkAddr (dst i r) + k

/-- Every word at an address of `A` has been written. -/
def Memory.writtenOn (m : Memory) (A : Nat → Prop) : Prop := ∀ a, A a → m.read? a ≠ none

theorem storedBelow_succ {r c x : Nat} (h : storedBelow r (c + 1) x) :
    storedBelow r c x ∨ chunkAddr (dst c r) ≤ x ∧ x < chunkAddr (dst c r) + 16 := by
  obtain ⟨i, hi, k, hk, rfl⟩ := h
  by_cases hlast : i = c
  · subst hlast
    exact .inr ⟨Nat.le_add_right _ _, Nat.add_lt_add_left hk _⟩
  · exact .inl ⟨i, by omega, k, hk, rfl⟩

theorem not_storedBelow_zero (r x : Nat) : ¬ storedBelow r 0 x := by
  rintro ⟨i, hi, -⟩
  exact absurd hi (Nat.not_lt_zero i)

/-- R160: the destinations of all `2r` chunks are the whole extent. -/
theorem storedBelow_of_lt_extent {r x : Nat} (h : x < 32 * r) : storedBelow r (2 * r) x := by
  have hchunk : x / 16 < 2 * r := by omega
  refine ⟨dstInverse (x / 16) r, dstInverse_lt hchunk, x % 16, Nat.mod_lt _ (by decide), ?_⟩
  rw [dst_dstInverse, chunkAddr, Nat.div_add_mod]

/-- R65: the slots below `i + 1` are those below `i`, and slot `i`. -/
theorem lt_slots_succ {i r x : Nat} (h : x < (i + 1) * 32 * r) :
    x < i * 32 * r ∨ slotAddr i r ≤ x ∧ x < slotAddr i r + extent r := by
  have hsplit : (i + 1) * 32 * r = slotAddr i r + extent r := by unfold slotAddr extent; ring
  have hslot : slotAddr i r = i * 32 * r := rfl
  omega

/-- A run of words reads as the words inside it, and as before outside. -/
theorem read?_writeRun (m : Memory) (a : Nat) (ws : List Word) (x : Nat) :
    (m.writeRun a ws).read? x = if a ≤ x ∧ x < a + ws.length then ws[x - a]? else m.read? x := by
  split
  · have hk : x - a < ws.length := by omega
    have hread := read?_writeRun_inside m a ws hk
    rwa [Nat.add_sub_cancel' (by omega), ← List.getElem?_eq_getElem hk] at hread
  · exact read?_writeRun_outside m ws (by omega)

theorem writtenOn_writeRun {m : Memory} {A B : Nat → Prop} {a count : Nat} (ws : Vector Word count) (h : m.writtenOn B)
    (hA : ∀ x, A x → B x ∨ a ≤ x ∧ x < a + count) : (m.writeRun a ws.toList).writtenOn A := fun x hx => by
  rw [read?_writeRun, Vector.length_toList]
  split
  · simp only [ne_eq, List.getElem?_eq_none_iff, Vector.length_toList]
    omega
  · exact h x ((hA x hx).resolve_right ‹_›)

section
variable {q : SeqPos} {r n : Nat} {s : State}

/-! ### How many slots -/

theorem next_ms_eq_qSnap (h : (q.next r n).ms = .qSnap) : q.ms = .qInit ∨ q.ms = .qNext := by
  rw [SeqPos.next] at h
  cases hms : q.ms <;> simp [hms, labelAfterEvaluation] at h ⊢
  all_goals split at h <;> simp at h

theorem slotsWritten_mix (hpass : s.seq.pass = .mix) : slotsWritten s = s.nNat := by
  rw [slotsWritten, hpass]

theorem slotsWritten_fill (h : s.seq.ms ≠ .qSnap) (hpass : s.seq.pass = .fill) : slotsWritten s = s.seq.i + 1 := by
  rw [slotsWritten, hpass]
  exact if_neg h

theorem slotsWritten_of_qSnap (h : s.seq.ms = .qSnap) (hpass : s.seq.pass = .fill) : slotsWritten s = s.seq.i := by
  rw [slotsWritten, hpass]
  exact if_pos h

theorem slotsWritten_advanced_of_qInit (h : s.seq.ms = .qInit) : slotsWritten s.advanced = 0 := by
  have hseq : s.advanced.seq = { s.seq with ms := .qSnap, pass := .fill, i := 0 } := by
    rw [advanced_seq, SeqPos.next, h]
  rw [slotsWritten_of_qSnap (by rw [hseq]) (by rw [hseq]), hseq]

theorem slotsWritten_advanced_of_qSnap (h : s.seq.ms = .qSnap) (hpass : s.seq.pass = .fill) :
    slotsWritten s.advanced = s.seq.i + 1 := by
  have hseq : s.advanced.seq = { s.seq with ms := .mInit } := by rw [advanced_seq, SeqPos.next, h]
  rw [slotsWritten_fill (by simp [hseq]) (by rw [hseq, hpass]), hseq]

/-- Q_NEXT counts the step that is over, and no slot is filled in between. -/
theorem slotsWritten_advanced_of_qNext (h : s.seq.ms = .qNext) (hi : s.seq.i < s.nNat) :
    slotsWritten s.advanced = slotsWritten s := by
  have hseq : s.advanced.seq = s.seq.advanced s.nNat := by rw [advanced_seq, SeqPos.next, h]
  rw [slotsWritten, slotsWritten, advanced_nNat, hseq, h, SeqPos.advanced]
  by_cases hlast : s.seq.i + 1 < s.nNat
  · cases hpass : s.seq.pass <;> simp [hlast]
  · have hend : s.seq.i + 1 = s.nNat := by omega
    cases hpass : s.seq.pass <;> simp [hend]

theorem slotsWritten_advanced_of_ne (hinit : s.seq.ms ≠ .qInit) (hsnap : s.seq.ms ≠ .qSnap)
    (hnext : s.seq.ms ≠ .qNext) : slotsWritten s.advanced = slotsWritten s := by
  have hsnap' : s.advanced.seq.ms ≠ .qSnap := fun h => by
    rw [advanced_seq] at h
    exact (next_ms_eq_qSnap h).elim hinit hnext
  obtain ⟨hpass, hi⟩ := next_pass_i (r := s.rNat) (n := s.nNat) hinit hnext
  rw [← advanced_seq] at hpass hi
  rw [slotsWritten, slotsWritten, if_neg hsnap, if_neg hsnap', hpass, hi, advanced_nNat]

/-- Only Q_INIT and Q_SNAP change the number of slots filled. -/
theorem slotsWritten_advanced (hinit : s.seq.ms ≠ .qInit) (hsnap : s.seq.ms ≠ .qSnap) (hi : s.seq.i < s.nNat) :
    slotsWritten s.advanced = slotsWritten s := by
  by_cases hnext : s.seq.ms = .qNext
  · exact slotsWritten_advanced_of_qNext hnext hi
  · exact slotsWritten_advanced_of_ne hinit hsnap hnext

/-! ### The labels of each command -/

/-- The labels of a BlockMix (R151 to R156). -/
def mixLabels : List MicroLabel := [.mInit, .mXor, .sLoad, .sDr, .sFf, .mStore, .mCommit]

/-- The labels that SEQ.MS takes while SEQ.OP holds the command (R183). -/
def opLabels : Op → List MicroLabel
  | .none => [.idle]
  | .salsa => [.kLoadX, .sLoad, .sDr, .sFf, .kStoreX, .finish]
  | .bmix => .finish :: mixLabels
  | .intfy => [.fIfy, .finish]
  | .romix => [.qInit, .qSnap, .qNext, .qIdx, .qXor, .finish] ++ mixLabels

theorem ms_mem_mixLabels (h : inBlockMix q r) : q.ms ∈ mixLabels := by
  simpa [mixLabels] using inBlockMix_ms h

theorem ms_mem_opLabels (h : seqLegal s) : s.seq.ms ∈ opLabels s.seq.op := by
  cases hop : s.seq.op with
  | none => simp [opLabels, (seqLegal_none hop).mp h]
  | salsa =>
    rcases (seqLegal_salsa hop).mp h with hms | heval | hms | hms
    · simp [opLabels, hms]
    · rcases inEvaluation_ms heval with hms | hms | hms <;> simp [opLabels, hms]
    all_goals simp [opLabels, hms]
  | bmix =>
    obtain ⟨-, hmix | hms⟩ := (seqLegal_bmix hop).mp h
    · exact List.mem_cons_of_mem _ (ms_mem_mixLabels hmix)
    · simp [opLabels, hms]
  | intfy =>
    obtain ⟨-, hms | hms⟩ := (seqLegal_intfy hop).mp h <;> simp [opLabels, hms]
  | romix =>
    obtain ⟨-, -, hms | hms | ⟨-, ⟨hms, -⟩ | hmix | hms | ⟨hms, -⟩ | ⟨hms, -⟩⟩⟩ := (seqLegal_romix hop).mp h
    case inr.inr.inr.inl => exact List.mem_append_right _ (ms_mem_mixLabels hmix)
    all_goals simp [opLabels, hms]

/-- A command with a BlockMix has no label of SALSA alone. -/
theorem ms_ne_of_mixing (h : seqLegal s) (hop : s.seq.op = .bmix ∨ s.seq.op = .romix) :
    s.seq.ms ≠ .kLoadX ∧ s.seq.ms ≠ .kStoreX := by
  have hmem := ms_mem_opLabels h
  constructor <;> intro hms <;> rcases hop with hop | hop <;> simp [hop, hms, opLabels, mixLabels] at hmem

theorem op_eq_romix_of_ms (h : seqLegal s) (hms : s.seq.ms = .qSnap ∨ s.seq.ms = .qXor ∨ s.seq.ms = .qNext) :
    s.seq.op = .romix := by
  have hmem := ms_mem_opLabels h
  cases hop : s.seq.op with
  | romix => rfl
  | _ => rcases hms with hms | hms | hms <;> simp [hop, hms, opLabels, mixLabels] at hmem

theorem op_mixing_of_ms (h : seqLegal s) (hms : s.seq.ms = .mXor ∨ s.seq.ms = .mStore ∨ s.seq.ms = .mCommit) :
    s.seq.op = .bmix ∨ s.seq.op = .romix := by
  have hmem := ms_mem_opLabels h
  cases hop : s.seq.op with
  | bmix => exact .inl rfl
  | romix => exact .inr rfl
  | _ => rcases hms with hms | hms | hms <;> simp [hop, hms, opLabels] at hmem

/-- At the labels of a BlockMix a command that has one is inside it. -/
theorem inBlockMix_of_mixing (h : seqLegal s) (hop : s.seq.op = .bmix ∨ s.seq.op = .romix)
    (hms : s.seq.ms ∈ mixLabels) : inBlockMix s.seq s.rNat := by
  rcases hop with hop | hop
  · obtain ⟨-, hmix | hat⟩ := (seqLegal_bmix hop).mp h
    · exact hmix
    · simp [hat, mixLabels] at hms
  · obtain ⟨-, -, hat | hat | ⟨-, ⟨hat, -⟩ | hmix | hat | ⟨hat, -⟩ | ⟨hat, -⟩⟩⟩ := (seqLegal_romix hop).mp h
    case inr.inr.inr.inr.inl => exact hmix
    all_goals simp [hat, mixLabels] at hms

theorem c_lt_of_mStore (h : inBlockMix q r) (hms : q.ms = .mStore) : q.c < 2 * r := by
  rcases h with hat | ⟨-, hc⟩ | ⟨hat, -⟩
  · simp [hms] at hat
  · exact hc
  · simp [hms] at hat

theorem c_eq_of_mCommit (h : inBlockMix q r) (hms : q.ms = .mCommit) : q.c = 2 * r := by
  rcases h with hat | ⟨hat | hat | hat, -⟩ | ⟨-, hc⟩
  case inr.inr => exact hc
  case inr.inl.inr.inl => rcases inEvaluation_ms hat with hat | hat | hat <;> simp [hms] at hat
  all_goals simp [hms] at hat

/-- Inside its passes a ROMIX is in a step of one of them. -/
theorem inRomixStep_of_seqLegal (h : seqLegal s) (hop : s.seq.op = .romix) (hinit : s.seq.ms ≠ .qInit)
    (hfinish : s.seq.ms ≠ .finish) : inRomixStep s.seq s.rNat s.nNat s.j.toNat := by
  obtain ⟨-, -, hms | hms | hstep⟩ := (seqLegal_romix hop).mp h
  · exact absurd hms hinit
  · exact absurd hms hfinish
  · exact hstep

theorem inRomixStep_qSnap {j : Nat} (h : inRomixStep q r n j) (hms : q.ms = .qSnap) : q.pass = .fill ∧ q.i < n := by
  obtain ⟨hi, ⟨-, hpass⟩ | hmix | hat | ⟨hat, -⟩ | ⟨hat, -⟩⟩ := h
  case inl => exact ⟨hpass, hi⟩
  case inr.inl => simpa [hms, mixLabels] using ms_mem_mixLabels hmix
  all_goals simp [hms] at hat

theorem inRomixStep_qXor {j : Nat} (h : inRomixStep q r n j) (hms : q.ms = .qXor) : q.pass = .mix ∧ j < n := by
  obtain ⟨-, ⟨hat, -⟩ | hmix | hat | ⟨hat, -⟩ | ⟨-, hmix⟩⟩ := h
  case inr.inl => simpa [hms, mixLabels] using ms_mem_mixLabels hmix
  case inr.inr.inr.inr => exact hmix
  all_goals simp [hms] at hat

/-! ### A step keeps them written -/

/-- While the engine is inside the passes of a ROMIX (R187). -/
def inPasses (q : SeqPos) : Prop := q.op = .romix ∧ q.ms ≠ .qInit ∧ q.ms ≠ .finish

/-- While the engine is between M_INIT and the end of a BlockMix (R152 to R156). -/
def storesChunks (q : SeqPos) : Prop :=
  (q.op = .bmix ∨ q.op = .romix) ∧
    (q.ms = .mXor ∨ q.ms = .sLoad ∨ q.ms = .sDr ∨ q.ms = .sFf ∨ q.ms = .mStore ∨ q.ms = .mCommit)

theorem tableWritten_iff : tableWritten s ↔ (inPasses s.seq → s.v.writtenOn (· < slotsWritten s * 32 * s.rNat)) :=
  ⟨fun h ⟨hop, hinit, hfinish⟩ => h hop hinit hfinish, fun h hop hinit hfinish => h ⟨hop, hinit, hfinish⟩⟩

theorem outputWritten_iff : outputWritten s ↔ (storesChunks s.seq → s.y.writtenOn (storedBelow s.rNat s.seq.c)) := by
  constructor
  · rintro h ⟨hop, hms⟩ a ⟨i, hi, k, hk, rfl⟩
    exact h hop hms i hi k hk
  · exact fun h hop hms i hi k hk => h ⟨hop, hms⟩ _ ⟨i, hi, k, hk, rfl⟩

theorem next_op_ms_ne_finish (h : (q.next r n).op ≠ .none) : q.ms ≠ .finish := fun hms =>
  h (by rw [SeqPos.next, hms])

/-- Inside the passes the engine was there before, or has just begun them at Q_INIT. -/
theorem inPasses_of_next (h : inPasses (q.next r n)) : q.op = .romix ∧ (q.ms = .qInit ∨ inPasses q) := by
  obtain ⟨hop, -, -⟩ := h
  have hfinish : q.ms ≠ .finish := next_op_ms_ne_finish (r := r) (n := n) (by simp [hop])
  rw [next_op hfinish] at hop
  by_cases hinit : q.ms = .qInit
  · exact ⟨hop, .inl hinit⟩
  · exact ⟨hop, .inr ⟨hop, hinit, hfinish⟩⟩

theorem op_of_next_storesChunks (h : storesChunks (q.next r n)) : q.op = .bmix ∨ q.op = .romix := by
  obtain ⟨hop, -⟩ := h
  rwa [next_op (next_op_ms_ne_finish (r := r) (n := n) (by rcases hop with hop | hop <;> simp [hop]))] at hop

/-- M_XOR and what follows it in a BlockMix are led to from M_INIT and from each other only, but for K_LOADX. -/
theorem ms_of_next_storesChunks (h : storesChunks (q.next r n)) (hload : q.ms ≠ .kLoadX) :
    q.ms = .mInit ∨ storesChunks q := by
  have hop : q.op = .bmix ∨ q.op = .romix := op_of_next_storesChunks h
  obtain ⟨-, hat⟩ := h
  cases hms : q.ms with
  | mInit => exact .inl rfl
  | mXor | sLoad | sDr | sFf | mStore | mCommit => exact .inr ⟨hop, by simp [hms]⟩
  | kLoadX => exact absurd hms hload
  | qNext => rcases advanced_ms q n with h | h | h <;> simp [SeqPos.next, hms, h] at hat
  | _ => simp [SeqPos.next, hms] at hat

end

section
variable {s : State}

/-- Between M_INIT and the end of a BlockMix the engine was there before, or was at M_INIT. -/
theorem storesChunks_of_next (hlegal : seqLegal s) (h : storesChunks (s.seq.next s.rNat s.nNat)) :
    s.seq.ms = .mInit ∨ storesChunks s.seq :=
  ms_of_next_storesChunks h (ms_ne_of_mixing hlegal (op_of_next_storesChunks h)).1

/-- A micro-step of a running ROMIX keeps the slots filled so far, and fills slot I at Q_SNAP. -/
theorem tableWritten_advanced (hlegal : seqLegal s) (h : tableWritten s) : tableWritten s.advanced := by
  rw [tableWritten_iff, advanced_rNat]
  intro hpasses
  rw [advanced_seq] at hpasses
  obtain ⟨hop, hinit | hbefore⟩ := inPasses_of_next hpasses
  · intro a ha
    simp [slotsWritten_advanced_of_qInit hinit] at ha
  · have hv := tableWritten_iff.mp h hbefore
    obtain ⟨-, hinit, hfinish⟩ := hbefore
    have hstep := inRomixStep_of_seqLegal hlegal hop hinit hfinish
    by_cases hsnap : s.seq.ms = .qSnap
    · obtain ⟨hpass, -⟩ := inRomixStep_qSnap hstep hsnap
      rw [slotsWritten_of_qSnap hsnap hpass] at hv
      rw [advanced_v_of_qSnap hsnap, slotsWritten_advanced_of_qSnap hsnap hpass]
      exact writtenOn_writeRun _ hv fun x => lt_slots_succ
    · rwa [advanced_v hsnap, slotsWritten_advanced hinit hsnap hstep.1]

/-- A micro-step of a BlockMix keeps the chunks stored so far, and stores chunk `dst(C, r)` at M_STORE. -/
theorem outputWritten_advanced (hlegal : seqLegal s) (h : outputWritten s) : outputWritten s.advanced := by
  rw [outputWritten_iff, advanced_rNat]
  intro hstores
  rw [advanced_seq] at hstores ⊢
  obtain hinit | hbefore := storesChunks_of_next hlegal hstores
  · have hc : (s.seq.next s.rNat s.nNat).c = 0 := by rw [SeqPos.next, hinit]
    rw [hc]
    exact fun a ha => absurd ha (not_storedBelow_zero _ a)
  · have hy := outputWritten_iff.mp h hbefore
    by_cases hstore : s.seq.ms = .mStore
    · have hc : (s.seq.next s.rNat s.nNat).c = s.seq.c + 1 := by rw [SeqPos.next, hstore]
      rw [hc, advanced_y_of_mStore hstore]
      exact writtenOn_writeRun s.xs hy fun x => storedBelow_succ
    · have hinit : s.seq.ms ≠ .mInit := fun hms => by simpa [hms] using hbefore.2
      rwa [next_c hinit hstore, advanced_y hstore]

/-- Without a command in progress nothing is claimed of V and Y. -/
theorem tableWritten_outputWritten_of_op (h : s.seq.op = .none) : tableWritten s ∧ outputWritten s := by
  constructor
  · intro hop
    simp [h] at hop
  · intro hop
    simp [h] at hop

/-- A command that is accepted has not begun its passes. -/
theorem not_inPasses_accept (i : Instr) (s : State) : ¬ inPasses (accept i s).seq := by
  rintro ⟨hop, hinit, -⟩
  cases i <;> simp [opOf, firstLabel] at hop hinit

/-- A command that is accepted has not begun to store the chunks of a BlockMix. -/
theorem not_storesChunks_accept (i : Instr) (s : State) : ¬ storesChunks (accept i s).seq := by
  rintro ⟨-, hms⟩
  cases i <;> simp [firstLabel] at hms

theorem tableWritten_outputWritten_accept (i : Instr) (s : State) :
    tableWritten (accept i s) ∧ outputWritten (accept i s) :=
  ⟨tableWritten_iff.mpr fun h => absurd h (not_inPasses_accept i s),
    outputWritten_iff.mpr fun h => absurd h (not_storesChunks_accept i s)⟩

/-- A legal state in which the slots and chunks stored so far hold written words. -/
def LegalWritten (s : State) : Prop := LegalState s ∧ tableWritten s ∧ outputWritten s

theorem keptByMoves_legalWritten : KeptByMoves LegalWritten where
  agenda _ _ h := h
  recorded _ _ _ h := h
  advanced s h hstep :=
    ⟨keptByMoves_legalState.advanced s h.1 hstep, tableWritten_advanced h.1.seqLegal h.2.1,
      outputWritten_advanced h.1.seqLegal h.2.2⟩
  accept i s hidle hcheck h :=
    ⟨keptByMoves_legalState.accept i s hidle hcheck h.1, tableWritten_outputWritten_accept i s⟩
  reject v s hidle hv h :=
    ⟨keptByMoves_legalState.reject v s hidle hv h.1, tableWritten_outputWritten_of_op (h.1.op_of_idle hidle)⟩
  setR s v hidle h :=
    ⟨keptByMoves_legalState.setR s v hidle h.1, tableWritten_outputWritten_of_op (h.1.op_of_idle hidle)⟩
  setN s v hidle h :=
    ⟨keptByMoves_legalState.setN s v hidle h.1, tableWritten_outputWritten_of_op (h.1.op_of_idle hidle)⟩
  write s a v hidle ha h :=
    ⟨keptByMoves_legalState.write s a v hidle ha h.1, tableWritten_outputWritten_of_op (h.1.op_of_idle hidle)⟩
  reset s h := ⟨keptByMoves_legalState.reset s h.1, tableWritten_outputWritten_of_op rfl⟩

/-- Settles O45: a micro-step by what it stores, and every host move because no command is then in progress. -/
theorem stepKeepsTableAndOutputWritten : Obligations.StepKeepsTableAndOutputWritten := by
  unfold Obligations.StepKeepsTableAndOutputWritten
  exact fun s t hs htable houtput h => (keptByMoves_legalWritten.step ⟨hs, htable, houtput⟩ h).2

/-- Settles O42: the reset state has no command in progress. -/
theorem invariantHoldsAtReset : Obligations.InvariantHoldsAtReset := by
  unfold Obligations.InvariantHoldsAtReset
  exact ⟨legalState_afterReset _ _ _ _, tableWritten_outputWritten_of_op rfl⟩

/-! ### What Q_XOR and M_COMMIT read -/

theorem qXor_reads_written (hlegal : seqLegal s) (h : tableWritten s) (hms : s.seq.ms = .qXor) :
    s.j.toNat < s.nNat ∧ ∀ k, k < 32 * s.rNat → s.v.read? (s.j.toNat * 32 * s.rNat + k) ≠ none := by
  have hop : s.seq.op = .romix := op_eq_romix_of_ms hlegal (.inr (.inl hms))
  have hinit : s.seq.ms ≠ .qInit := by simp [hms]
  have hfinish : s.seq.ms ≠ .finish := by simp [hms]
  obtain ⟨hpass, hj⟩ := inRomixStep_qXor (inRomixStep_of_seqLegal hlegal hop hinit hfinish) hms
  have hv := tableWritten_iff.mp h ⟨hop, hinit, hfinish⟩
  rw [slotsWritten_mix hpass] at hv
  refine ⟨hj, fun k hk => hv _ ?_⟩
  have hslot : slotAddr s.j.toNat s.rNat + 32 * s.rNat ≤ slotAddr s.nNat s.rNat := slotAddr_add_extent_le s.rNat hj
  exact (Nat.add_lt_add_left hk _).trans_le hslot

theorem mCommit_reads_written (hlegal : seqLegal s) (h : outputWritten s) (hms : s.seq.ms = .mCommit) :
    ∀ k, k < 32 * s.rNat → s.y.read? k ≠ none := by
  have hop : s.seq.op = .bmix ∨ s.seq.op = .romix := op_mixing_of_ms hlegal (.inr (.inr hms))
  have hc : s.seq.c = 2 * s.rNat := c_eq_of_mCommit (inBlockMix_of_mixing hlegal hop (by simp [hms, mixLabels])) hms
  have hy := outputWritten_iff.mp h ⟨hop, by simp [hms]⟩
  rw [hc] at hy
  exact fun k hk => hy k (storedBelow_of_lt_extent hk)

/-- Settles O46: slot J is one of the `n` filled slots, and the chunks stored for all `2r` counters are the output. -/
theorem tableAndOutputReadOnlyWrittenWords : Obligations.TableAndOutputReadOnlyWrittenWords := by
  unfold Obligations.TableAndOutputReadOnlyWrittenWords
  exact fun s hs htable houtput => ⟨qXor_reads_written hs.seqLegal htable, mCommit_reads_written hs.seqLegal houtput⟩

/-! ### What a ROMIX may store -/

theorem keptOutside_v_of_romix (hlegal : seqLegal s) (hop : s.seq.op = .romix) :
    Claims.keptOutside s.v s.advanced.v 0 (s.nNat * 32 * s.rNat) := by
  by_cases hms : s.seq.ms = .qSnap
  · have hstep := inRomixStep_of_seqLegal hlegal hop (by simp [hms]) (by simp [hms])
    obtain ⟨-, hi⟩ := inRomixStep_qSnap hstep hms
    rw [advanced_v_of_qSnap hms]
    exact keptOutside_writeRun s.v _ (Nat.zero_le _)
      ((slotAddr_add_extent_le s.rNat hi).trans (Nat.zero_add _).ge)
  · exact advanced_v hms ▸ keptOutside_refl _ _ _

theorem keptOutside_blk_of_romix (hlegal : seqLegal s) (hop : s.seq.op = .romix) :
    Claims.keptOutside s.blk s.advanced.blk 0 (32 * s.rNat) := by
  cases hms : s.seq.ms with
  | kStoreX => exact absurd hms (ms_ne_of_mixing hlegal (.inr hop)).2
  | mCommit => exact keptOutside_advanced_blk (.inl hms)
  | qXor => exact keptOutside_advanced_blk (.inr hms)
  | _ =>
    rw [advanced_blk (by simp [hms]) (by simp [hms]) (by simp [hms])]
    exact keptOutside_refl _ _ _

theorem keptOutside_y_of_romix (hlegal : seqLegal s) (hop : s.seq.op = .romix) :
    Claims.keptOutside s.y s.advanced.y 0 (32 * s.rNat) := by
  by_cases hms : s.seq.ms = .mStore
  · have hc : s.seq.c < 2 * s.rNat :=
      c_lt_of_mStore (inBlockMix_of_mixing hlegal (.inr hop) (by simp [hms, mixLabels])) hms
    have hdst : dst s.seq.c s.rNat < 2 * s.rNat := dst_lt hc
    rw [advanced_y_of_mStore hms]
    exact keptOutside_writeRun s.y s.xs (Nat.zero_le _) (by unfold chunkAddr; omega)
  · exact advanced_y hms ▸ keptOutside_refl _ _ _

/-- V is stored to at Q_SNAP alone, which the mix pass does not have. -/
theorem v_kept_of_mix (hlegal : seqLegal s) (hop : s.seq.op = .romix) (hpass : s.seq.pass = .mix) :
    s.advanced.v = s.v := by
  refine advanced_v fun hms => ?_
  have hstep := inRomixStep_of_seqLegal hlegal hop (by simp [hms]) (by simp [hms])
  simp [(inRomixStep_qSnap hstep hms).1] at hpass

/-- Settles O47: each storing micro-step of a ROMIX stores inside the extent of its memory. -/
theorem romixConfinesItsWrites : Obligations.RomixConfinesItsWrites := by
  unfold Obligations.RomixConfinesItsWrites
  intro s t hs hop h
  obtain rfl := eq_advanced_of_microStep h
  have hlegal : seqLegal s := hs.seqLegal
  exact ⟨v_kept_of_mix hlegal hop, keptOutside_v_of_romix hlegal hop, keptOutside_blk_of_romix hlegal hop,
    keptOutside_y_of_romix hlegal hop⟩

end

end Sys2Proof.Machine
end

section
/-! PROOFS. Whole commands step by step: how many micro-steps of which label each has (R185), that the run of single
steps is the command as one transition (R184), and how many micro-steps are left at each position, so that every poll
of STATUS returns (R97). -/

namespace Sys2Proof.Machine

/-! ### The labels of a command, counted -/

theorem count_flatten_replicate (l : MicroLabel) (k : Nat) (ls : List MicroLabel) :
    (List.replicate k ls).flatten.count l = k * ls.count l := by
  rw [List.count_flatten, List.map_replicate, List.sum_replicate, smul_eq_mul]

/-! S_LOAD and S_DR stand in the evaluations alone, of which each chunk has one. -/

section
variable {l : MicroLabel} (hl : l = .sLoad ∨ l = .sDr)
include hl

theorem count_blockMixLabels (r : Nat) :
    (Claims.blockMixLabels r).count l = 2 * r * Claims.evaluationLabels.count l := by
  have hchunk : Claims.chunkLabels.count l = Claims.evaluationLabels.count l := by
    rcases hl with rfl | rfl <;> rfl
  rw [← hchunk, ← count_flatten_replicate]
  rcases hl with rfl | rfl <;> simp [Claims.blockMixLabels]

theorem count_labels_bmix (r n : Nat) :
    (Claims.labels .bmix r n).count l = 2 * r * Claims.evaluationLabels.count l := by
  rw [← count_blockMixLabels hl]
  rcases hl with rfl | rfl <;> simp [Claims.labels]

theorem count_labels_romix (r n : Nat) :
    (Claims.labels .romix r n).count l = 4 * n * r * Claims.evaluationLabels.count l := by
  have hpasses : (Claims.labels .romix r n).count l =
      n * (Claims.blockMixLabels r).count l + n * (Claims.blockMixLabels r).count l := by
    rcases hl with rfl | rfl <;> simp [Claims.labels, count_flatten_replicate]
  rw [hpasses, count_blockMixLabels hl]
  ring

end

theorem count_evaluationLabels :
    Claims.evaluationLabels.count .sLoad = 1 ∧ Claims.evaluationLabels.count .sDr = 4 := by decide

section
variable {i : Instr} {s t : State}

/-- Every accepted command runs through its labels and completes. -/
theorem exists_carriesOut_completed (hcheck : checkInstr i s.rNat s.nNat s.params = .accepted) :
    ∃ t, Claims.carriesOut i s t ∧ Claims.completed t := by
  have hlegal : seqLegal (accept i s) := seqLegal_accept hcheck
  cases i with
  | salsa => exact ⟨s.salsaDone, salsa_carriesOut s, salsaDone_completed s⟩
  | bmix =>
    obtain ⟨hfits, -⟩ := (seqLegal_bmix rfl).mp hlegal
    obtain ⟨t, ht, hrun⟩ := exists_bmix_carriesOut (s := s) hfits
    exact ⟨t.finished, hrun, congrArg Status.finished ht.status, rfl, rfl⟩
  | intfy =>
    obtain ⟨hfits, -⟩ := (seqLegal_intfy rfl).mp hlegal
    exact ⟨s.intfyDone, intfy_carriesOut hfits, rfl, rfl, rfl⟩
  | romix =>
    obtain ⟨hfits, htable, -⟩ := (seqLegal_romix rfl).mp hlegal
    obtain ⟨t, ht, hrun⟩ := exists_romix_carriesOut (s := s) hfits.1 htable.1 hfits htable
    exact ⟨t.finished, hrun, congrArg Status.finished ht.status, rfl, rfl⟩

/-- Settles O21: the run through the labels is each command's own; the labels are counted list by list. -/
theorem microStepCountsAreExact : Obligations.MicroStepCountsAreExact := by
  unfold Obligations.MicroStepCountsAreExact
  refine ⟨rfl, fun i s hidle hcheck => ⟨?_, ?_, ?_, ?_⟩⟩
  · obtain ⟨t, hrun, hdone⟩ := exists_carriesOut_completed hcheck
    exact ⟨t, hrun, exec_of_carriesOut hidle hcheck hrun, hdone⟩
  · rw [length_labels]
    cases i <;> rfl
  · obtain ⟨hload, -⟩ := count_evaluationLabels
    cases i with
    | salsa | intfy => rfl
    | bmix => rw [count_labels_bmix (.inl rfl), hload, Nat.mul_one]
    | romix => rw [count_labels_romix (.inl rfl), hload, Nat.mul_one]
  · obtain ⟨-, hround⟩ := count_evaluationLabels
    cases i with
    | salsa | intfy => rfl
    | bmix =>
      rw [count_labels_bmix (.inr rfl), hround]
      change _ = 8 * s.rNat
      ring
    | romix =>
      rw [count_labels_romix (.inr rfl), hround]
      change _ = 16 * s.nNat * s.rNat
      ring

/-! ### One by one and all at once -/

theorem iterate_advanced_setAgenda (s : State) (a : List Event) (count : Nat) :
    State.advanced^[count] (s.setAgenda a) = (State.advanced^[count] s).setAgenda a := by
  have hcomm : Function.Commute State.advanced (·.setAgenda a) := fun s => advanced_setAgenda s a
  exact hcomm.iterate_left count s

/-- The engine's moves, one by one, are its micro-steps. -/
theorem steps_replicate_engine (h : seqLegal s) (count : Nat) (rest : List Event) :
    steps count (s.setAgenda (List.replicate count .engine ++ rest)) =
      .next ((State.advanced^[count] s).setAgenda rest) := by
  induction count generalizing s with
  | zero => rfl
  | succ count ih =>
    have hstep : step (s.setAgenda (.engine :: (List.replicate count .engine ++ rest))) =
        .next (s.advanced.setAgenda (List.replicate count .engine ++ rest)) := by
      rw [step_of_agenda_cons rfl, ← advanced_setAgenda]
      exact microStep_of_seqLegal (s := s.setAgenda _) h
    rw [List.replicate_succ, List.cons_append, steps_succ_of_next hstep, ih (seqLegal_advanced h),
      Function.iterate_succ_apply]

theorem step_issue_of_accepted (hidle : s.status.busy = false)
    (hcheck : checkInstr i s.rNat s.nNat s.params = .accepted) (rest : List Event) :
    step (s.setAgenda (.host (.wcsr 0 (encode i)) :: rest)) = .next ((accept i s).setAgenda rest) := by
  have hissue : hostAccess (.wcsr 0 (encode i)) (s.setAgenda rest) = accept i (s.setAgenda rest) := by
    rw [hostAccess_wcsr_cmd_of_idle (s := s.setAgenda rest) hidle]
    exact issueIdle_of_accepted (decode_encode i) ((check_of_decode_eq_ok (decode_encode i) ..).trans hcheck)
  rw [step_of_agenda_cons rfl]
  exact congrArg Host.Outcome.next hissue

/-- Settles O22: both ways lead to the state after the command's micro-steps from its acceptance. -/
theorem stepwiseRunAgreesWithAtomicCommand : Obligations.StepwiseRunAgreesWithAtomicCommand := by
  unfold Obligations.StepwiseRunAgreesWithAtomicCommand
  intro i s rest hidle hcheck
  have hatomic : step (s.setAgenda (.command (encode i) :: rest)) = exec i (s.setAgenda rest) :=
    (step_of_agenda_cons (s := s.setAgenda _) rfl).trans (commandMove_of_decode_eq_ok (decode_encode i) _)
  have haccept : accept i (s.setAgenda rest) = (accept i s).setAgenda rest := rfl
  rw [hatomic, exec_of_accepted (s := s.setAgenda rest) hidle hcheck, haccept, iterate_advanced_setAgenda,
    Nat.add_comm 1, steps_succ_of_next (step_issue_of_accepted hidle hcheck _),
    steps_replicate_engine (seqLegal_accept hcheck)]
  rfl

end

/-! ### How many micro-steps are left -/

/-- The micro-steps left of one chunk of a BlockMix, and of a SALSA but for its last two. -/
def SeqPos.chunkLeft (q : SeqPos) : Nat :=
  match q.ms with
  | .mXor => 8
  | .sLoad => 7
  | .sDr => 6 - q.d
  | .sFf => 2
  | .mStore => 1
  | _ => 0

/-- The micro-steps left of a BlockMix of `2r` chunks. -/
def SeqPos.mixLeft (q : SeqPos) (r : Nat) : Nat :=
  match q.ms with
  | .mInit => 16 * r + 2
  | .mCommit => 1
  | _ => 8 * (2 * r - 1 - q.c) + q.chunkLeft + 1

/-- The micro-steps left of one step of a pass of ROMIX. -/
def SeqPos.stepLeft (q : SeqPos) (r : Nat) : Nat :=
  match q.ms with
  | .qSnap => 16 * r + 4
  | .qIdx => 16 * r + 5
  | .qXor => 16 * r + 4
  | .qNext => 1
  | _ => q.mixLeft r + 1

/-- The micro-steps left of the command in progress (R185), as the tables of R132, R158, R171 and R182 list them. -/
def SeqPos.left (q : SeqPos) (r n : Nat) : Nat :=
  match q.op with
  | .none => 0
  | .salsa =>
    match q.ms with
    | .kLoadX => 9
    | .kStoreX => 2
    | .finish => 1
    | _ => q.chunkLeft + 1
  | .bmix => if q.ms = .finish then 1 else q.mixLeft r + 1
  | .intfy => if q.ms = .finish then 1 else 2
  | .romix =>
    match q.ms with
    | .qInit => n * (16 * r + 4) + n * (16 * r + 5) + 2
    | .finish => 1
    | _ =>
      match q.pass with
      | .fill => (n - 1 - q.i) * (16 * r + 4) + q.stepLeft r + n * (16 * r + 5) + 1
      | .mix => (n - 1 - q.i) * (16 * r + 5) + q.stepLeft r + 1

section
variable {q : SeqPos} {r n : Nat}

theorem mixLeft_next (hr : 1 ≤ r) (hop : q.op = .bmix ∨ q.op = .romix) (h : inBlockMix q r) (hms : q.ms ≠ .mCommit) :
    (q.next r n).mixLeft r + 1 = q.mixLeft r := by
  have hafter := labelAfterEvaluation_of_mixing hop
  rcases h with hat | ⟨hat | (hat | ⟨hat, hd⟩ | ⟨hat, -⟩) | hat, hc⟩ | ⟨hat, -⟩
  · simp only [SeqPos.mixLeft, SeqPos.chunkLeft, SeqPos.next, hat]
    omega
  · simp [SeqPos.mixLeft, SeqPos.chunkLeft, SeqPos.next, hat]
  · simp [SeqPos.mixLeft, SeqPos.chunkLeft, SeqPos.next, hat]
  · by_cases hlast : q.d + 1 < 4
    · simp only [SeqPos.mixLeft, SeqPos.chunkLeft, SeqPos.next, hat, hlast, if_true]
      omega
    · have hthree : q.d = 3 := by omega
      simp [SeqPos.mixLeft, SeqPos.chunkLeft, SeqPos.next, hat, hthree]
  · simp [SeqPos.mixLeft, SeqPos.chunkLeft, SeqPos.next, hat, hafter]
  · by_cases hlast : q.c + 1 < 2 * r
    · simp only [SeqPos.mixLeft, SeqPos.chunkLeft, SeqPos.next, hat, hlast, if_true]
      omega
    · have hend : 2 * r - 1 - q.c = 0 := by omega
      simp [SeqPos.mixLeft, SeqPos.chunkLeft, SeqPos.next, hat, hlast, hend]
  · exact absurd hat hms

theorem inBlockMix_next_of_ne_mCommit (hr : 1 ≤ r) (hop : q.op = .bmix ∨ q.op = .romix) (h : inBlockMix q r)
    (hms : q.ms ≠ .mCommit) : inBlockMix (q.next r n) r := by
  have hkeep : (q.next r n).ms ∈ mixLabels := by
    have hafter := labelAfterEvaluation_of_mixing hop
    rcases inBlockMix_ms h with hat | hat | hat | hat | hat | hat | hat
    case inr.inr.inr.inr.inr.inr => exact absurd hat hms
    case inr.inr.inr.inl | inr.inr.inr.inr.inr.inl =>
      simp only [SeqPos.next, hat]
      split <;> simp [mixLabels]
    all_goals simp [SeqPos.next, hat, hafter, mixLabels]
  refine (inBlockMix_next hr hop h).resolve_right fun hend => ?_
  rw [hend] at hkeep
  rcases hop with hop | hop <;> simp [hop, mixLabels] at hkeep

theorem stepLeft_of_inBlockMix (h : inBlockMix q r) : q.stepLeft r = q.mixLeft r + 1 := by
  rcases inBlockMix_ms h with hms | hms | hms | hms | hms | hms | hms <;> simp [SeqPos.stepLeft, hms]

theorem left_of_bmix (hop : q.op = .bmix) (hms : q.ms ≠ .finish) : q.left r n = q.mixLeft r + 1 := by
  simp [SeqPos.left, hop, hms]

theorem left_of_finish (hop : q.op ≠ .none) (hms : q.ms = .finish) : q.left r n = 1 := by
  cases h : q.op with
  | none => exact absurd h hop
  | _ => simp [SeqPos.left, h, hms]

theorem left_of_inPasses_fill (h : inPasses q) (hpass : q.pass = .fill) :
    q.left r n = (n - 1 - q.i) * (16 * r + 4) + q.stepLeft r + n * (16 * r + 5) + 1 := by
  obtain ⟨hop, hinit, hfinish⟩ := h
  simp only [SeqPos.left, hop, hpass]

theorem left_of_inPasses_mix (h : inPasses q) (hpass : q.pass = .mix) :
    q.left r n = (n - 1 - q.i) * (16 * r + 5) + q.stepLeft r + 1 := by
  obtain ⟨hop, hinit, hfinish⟩ := h
  simp only [SeqPos.left, hop, hpass]

theorem inPasses_of_inRomixStep {j : Nat} (hop : q.op = .romix) (h : inRomixStep q r n j) : inPasses q := by
  obtain ⟨-, ⟨hms, -⟩ | hmix | hms | ⟨hms, -⟩ | ⟨hms, -⟩⟩ := h
  case inr.inl =>
    have hmem := ms_mem_mixLabels hmix
    refine ⟨hop, ?_, ?_⟩ <;> intro hms <;> simp [hms, mixLabels] at hmem
  all_goals exact ⟨hop, by simp [hms], by simp [hms]⟩

theorem stepLeft_next {j : Nat} (hr : 1 ≤ r) (hop : q.op = .romix) (h : inRomixStep q r n j) (hnext : q.ms ≠ .qNext) :
    (q.next r n).stepLeft r + 1 = q.stepLeft r := by
  obtain ⟨-, ⟨hms, -⟩ | hmix | hms | ⟨hms, -⟩ | ⟨hms, -⟩⟩ := h
  · simp [SeqPos.stepLeft, SeqPos.mixLeft, SeqPos.next, hms]
  · by_cases hcommit : q.ms = .mCommit
    · simp [SeqPos.stepLeft, SeqPos.mixLeft, SeqPos.next, hcommit, hop]
    · have hmix' : inBlockMix (q.next r n) r := inBlockMix_next_of_ne_mCommit hr (.inr hop) hmix hcommit
      rw [stepLeft_of_inBlockMix hmix, stepLeft_of_inBlockMix hmix', mixLeft_next hr (.inr hop) hmix hcommit]
  · exact absurd hms hnext
  · simp [SeqPos.stepLeft, SeqPos.next, hms]
  · simp [SeqPos.stepLeft, SeqPos.mixLeft, SeqPos.next, hms]

theorem inPasses_next {j : Nat} (hr : 1 ≤ r) (hop : q.op = .romix) (h : inRomixStep q r n j) (hnext : q.ms ≠ .qNext) :
    inPasses (q.next r n) := by
  have hop' : (q.next r n).op = .romix := (next_op (inPasses_of_inRomixStep hop h).2.2).trans hop
  obtain ⟨-, ⟨hms, -⟩ | hmix | hms | ⟨hms, -⟩ | ⟨hms, -⟩⟩ := h
  · exact ⟨hop', by simp [SeqPos.next, hms], by simp [SeqPos.next, hms]⟩
  · by_cases hcommit : q.ms = .mCommit
    · exact ⟨hop', by simp [SeqPos.next, hcommit, hop], by simp [SeqPos.next, hcommit, hop]⟩
    · have hmem := ms_mem_mixLabels (inBlockMix_next_of_ne_mCommit (n := n) hr (.inr hop) hmix hcommit)
      refine ⟨hop', ?_, ?_⟩ <;> intro hms <;> simp [hms, mixLabels] at hmem
  · exact absurd hms hnext
  · exact ⟨hop', by simp [SeqPos.next, hms], by simp [SeqPos.next, hms]⟩
  · exact ⟨hop', by simp [SeqPos.next, hms], by simp [SeqPos.next, hms]⟩

/-- Inside a step the pass and its counter stay. -/
theorem left_next_of_inRomixStep {j : Nat} (hr : 1 ≤ r) (hop : q.op = .romix) (h : inRomixStep q r n j)
    (hnext : q.ms ≠ .qNext) : (q.next r n).left r n + 1 = q.left r n := by
  have hpasses : inPasses q := inPasses_of_inRomixStep hop h
  have hpasses' : inPasses (q.next r n) := inPasses_next hr hop h hnext
  obtain ⟨hpass', hi'⟩ := next_pass_i (r := r) (n := n) hpasses.2.1 hnext
  have hleft := stepLeft_next hr hop h hnext
  cases hpass : q.pass with
  | fill =>
    rw [left_of_inPasses_fill hpasses hpass, left_of_inPasses_fill hpasses' (hpass'.trans hpass), hi']
    omega
  | mix =>
    rw [left_of_inPasses_mix hpasses hpass, left_of_inPasses_mix hpasses' (hpass'.trans hpass), hi']
    omega

theorem mul_eq_sub_one_mul_add (hn : 1 ≤ n) (w : Nat) : n * w = (n - 1) * w + w := by
  rw [← Nat.succ_mul, Nat.succ_eq_add_one, Nat.sub_add_cancel hn]

/-- Q_NEXT begins the next step, or the mix pass, or ends the command. -/
theorem left_next_of_qNext (hop : q.op = .romix) (hms : q.ms = .qNext) (hi : q.i < n) :
    (q.next r n).left r n + 1 = q.left r n := by
  have hpasses : inPasses q := ⟨hop, by simp [hms], by simp [hms]⟩
  have hseq : q.next r n = q.advanced n := by rw [SeqPos.next, hms]
  have hone : q.stepLeft r = 1 := by rw [SeqPos.stepLeft, hms]
  rw [hseq]
  by_cases hlast : q.i + 1 < n
  · have hcount : n - 1 - q.i = n - 1 - (q.i + 1) + 1 := by omega
    cases hpass : q.pass with
    | fill =>
      rw [left_of_inPasses_fill hpasses hpass, hone, hcount, Nat.succ_mul]
      simp only [SeqPos.advanced, hpass, hlast, if_true, SeqPos.left, hop, SeqPos.stepLeft]
      omega
    | mix =>
      rw [left_of_inPasses_mix hpasses hpass, hone, hcount, Nat.succ_mul]
      simp only [SeqPos.advanced, hpass, hlast, if_true, SeqPos.left, hop, SeqPos.stepLeft]
  · have hend : n - 1 - q.i = 0 := by omega
    cases hpass : q.pass with
    | fill =>
      rw [left_of_inPasses_fill hpasses hpass, hone, hend, mul_eq_sub_one_mul_add (by omega) (16 * r + 5)]
      simp only [SeqPos.advanced, hpass, hlast, if_false, SeqPos.left, hop, SeqPos.stepLeft, Nat.sub_zero]
      omega
    | mix =>
      rw [left_of_inPasses_mix hpasses hpass, hone, hend]
      simp [SeqPos.advanced, hpass, hlast, SeqPos.left, hop]

theorem left_next_of_salsa (hop : q.op = .salsa)
    (h : q.ms = .kLoadX ∨ inEvaluation q ∨ q.ms = .kStoreX ∨ q.ms = .finish) :
    (q.next r n).left r n + 1 = q.left r n := by
  rcases h with hms | (hms | ⟨hms, hd⟩ | ⟨hms, -⟩) | hms | hms
  · simp [SeqPos.left, SeqPos.chunkLeft, SeqPos.next, hop, hms]
  · simp [SeqPos.left, SeqPos.chunkLeft, SeqPos.next, hop, hms]
  · by_cases hlast : q.d + 1 < 4
    · simp only [SeqPos.left, SeqPos.chunkLeft, SeqPos.next, hop, hms, hlast, if_true]
      omega
    · have hthree : q.d = 3 := by omega
      simp [SeqPos.left, SeqPos.chunkLeft, SeqPos.next, hop, hms, hthree]
  · simp [SeqPos.left, SeqPos.chunkLeft, SeqPos.next, hop, hms, labelAfterEvaluation]
  all_goals simp [SeqPos.left, SeqPos.next, hop, hms]

theorem left_next_of_bmix (hop : q.op = .bmix) (hr : 1 ≤ r) (h : inBlockMix q r) :
    (q.next r n).left r n + 1 = q.left r n := by
  have hfinish {q : SeqPos} (h : inBlockMix q r) : q.ms ≠ .finish := fun hms => by
    simpa [hms, mixLabels] using ms_mem_mixLabels h
  rw [left_of_bmix hop (hfinish h)]
  by_cases hcommit : q.ms = .mCommit
  · simp [SeqPos.left, SeqPos.mixLeft, SeqPos.next, hop, hcommit]
  · have hmix : inBlockMix (q.next r n) r := inBlockMix_next_of_ne_mCommit hr (.inl hop) h hcommit
    rw [left_of_bmix ((next_op (hfinish h)).trans hop) (hfinish hmix), mixLeft_next hr (.inl hop) h hcommit]

end

section
variable {s : State}

/-- The micro-steps left in a state. -/
def State.left (s : State) : Nat := s.seq.left s.rNat s.nNat

/-- R185: every micro-step of a command is one of those that were left of it. -/
theorem left_advanced (h : seqLegal s) (hop : s.seq.op ≠ .none) : s.advanced.left + 1 = s.left := by
  rw [State.left, State.left, advanced_rNat, advanced_nNat, advanced_seq]
  by_cases hfinish : s.seq.ms = .finish
  · rw [left_of_finish hop hfinish]
    simp [SeqPos.next, hfinish, SeqPos.left]
  cases hcommand : s.seq.op with
  | none => exact absurd hcommand hop
  | salsa => exact left_next_of_salsa hcommand ((seqLegal_salsa hcommand).mp h)
  | bmix =>
    obtain ⟨hfits, hmix | hms⟩ := (seqLegal_bmix hcommand).mp h
    · exact left_next_of_bmix hcommand hfits.1 hmix
    · exact absurd hms hfinish
  | intfy =>
    obtain ⟨-, hms | hms⟩ := (seqLegal_intfy hcommand).mp h
    · simp [SeqPos.left, SeqPos.next, hcommand, hms]
    · exact absurd hms hfinish
  | romix =>
    obtain ⟨hfits, htable, hms | hms | hstep⟩ := (seqLegal_romix hcommand).mp h
    · simp only [SeqPos.left, SeqPos.next, hcommand, hms, SeqPos.stepLeft, Nat.sub_zero]
      rw [mul_eq_sub_one_mul_add htable.1 (16 * s.rNat + 4)]
    · exact absurd hms hfinish
    · by_cases hnext : s.seq.ms = .qNext
      · exact left_next_of_qNext hcommand hnext hstep.1
      · exact left_next_of_inRomixStep hfits.1 hcommand hstep hnext

/-! ### The poll -/

theorem step_wait_of_busy {rest : List Event} (hagenda : s.agenda = .wait :: rest) (hbusy : s.status.busy = true) :
    step s = microStep s := by
  have hback : (s.setAgenda rest).setAgenda (.wait :: rest) = s := by rw [← hagenda]; rfl
  have hpoll : step s = pollStep (s.setAgenda rest) := step_of_agenda_cons hagenda
  rw [hpoll, pollStep, setAgenda_status, if_pos hbusy, setAgenda_agenda, hback]

theorem step_wait_of_idle {rest : List Event} (hagenda : s.agenda = .wait :: rest) (hidle : s.status.busy = false) :
    step s = .next (answer s.status.word (s.setAgenda rest)) := by
  have hpoll : step s = pollStep (s.setAgenda rest) := step_of_agenda_cons hagenda
  rw [hpoll, pollStep, setAgenda_status, if_neg (by simp [hidle]), readCsr_status, setAgenda_status]

/-- The wait is over in `t`: the host goes on with the moves of `rest`, having read STATUS with BUSY clear. -/
def waitOver (rest : List Event) (t : State) : Prop :=
  t.agenda = rest ∧ t.status.busy = false ∧ t.reply = some t.status.word

/-- A poll that finds BUSY set takes one of the micro-steps that are left, so at last one finds it clear. -/
theorem exists_waitOver {rest : List Event} (hs : LegalState s) (hagenda : s.agenda = .wait :: rest) :
    ∃ k t, steps k s = .next t ∧ waitOver rest t := by
  induction hleft : s.left using Nat.strong_induction_on generalizing s with
  | _ left ih =>
    cases hbusy : s.status.busy with
    | false => exact ⟨1, _, steps_succ_of_next (step_wait_of_idle hagenda hbusy) 0, rfl, hbusy, rfl⟩
    | true =>
      have hadvanced : s.advanced.left + 1 = s.left := left_advanced hs.seqLegal (hs.busy_iff.mp hbusy)
      have hstep : step s = .next s.advanced :=
        (step_wait_of_busy hagenda hbusy).trans (microStep_of_seqLegal hs.seqLegal)
      obtain ⟨k, t, hrun, ht⟩ :=
        ih s.advanced.left (by omega) (legalState_advanced hs) ((advanced_agenda s).trans hagenda) rfl
      exact ⟨k + 1, t, (steps_succ_of_next hstep k).trans hrun, ht⟩

/-- Settles O48: the micro-steps left bound the polls that find BUSY set. -/
theorem waitTerminates : Obligations.WaitTerminates := by
  unfold Obligations.WaitTerminates
  intro s rest hs hagenda
  obtain ⟨k, t, hrun, ht⟩ := exists_waitOver hs hagenda
  exact ⟨k, t, hrun, ht⟩

end

end Sys2Proof.Machine
end

section
/-! PROOFS. No command reads what an earlier one left in XS, IN, B, Y, V or SEQ (R41): two runs that agree on all that
is visible, and on the hidden state that the run has itself written so far, go on agreeing. -/

namespace Sys2Proof.Machine

/-! ### Memories that agree on some addresses -/

/-- The two memories read alike at every address of `A`. -/
def Memory.agreesOn (m m' : Memory) (A : Nat → Prop) : Prop := ∀ a, A a → m.read? a = m'.read? a

theorem agreesOn_writeRun {m m' : Memory} {A B : Nat → Prop} {a count : Nat} (ws : Vector Word count)
    (h : m.agreesOn m' B) (hA : ∀ x, A x → B x ∨ a ≤ x ∧ x < a + count) :
    (m.writeRun a ws.toList).agreesOn (m'.writeRun a ws.toList) A := fun x hx => by
  rw [read?_writeRun, read?_writeRun, Vector.length_toList]
  split
  · rfl
  · exact h x ((hA x hx).resolve_right ‹_›)

/-- A run of words reads alike where the two memories agree, whether or not the words have been written. -/
theorem run_eq_of_agreesOn {m m' : Memory} {A : Nat → Prop} {a count : Nat} (h : m.agreesOn m' A)
    (hA : ∀ k < count, A (a + k)) (src : Source) (draw : Nat) :
    m.run src draw a count = m'.run src draw a count :=
  Vector.ext fun k hk => by
    rw [getElem_run, getElem_run, Memory.word, Memory.word, h _ (hA k hk)]

/-! ### Two runs of one command -/

/-- The labels at which a micro-step is still to read what XS holds. -/
def xsLive (ms : MicroLabel) : Prop := ms = .sLoad ∨ ms = .kStoreX ∨ ms = .mXor ∨ ms = .mStore

/-- The labels at which a micro-step is still to read what IN, B and D hold. -/
def banksLive (ms : MicroLabel) : Prop := ms = .sDr ∨ ms = .sFf

/-- Two states of one run from its acceptance on: they agree on what is visible, on the command and the label, and on
the hidden state that the command has written and is still to read. -/
structure SameRun (s s' : State) : Prop where
  visible : Claims.visibleAgree s s'
  op : s.seq.op = s'.seq.op
  ms : s.seq.ms = s'.seq.ms
  xs : xsLive s.seq.ms → s.xs = s'.xs
  banks : banksLive s.seq.ms → s.inB = s'.inB ∧ s.b = s'.b ∧ s.seq.d = s'.seq.d
  output : storesChunks s.seq → s.seq.c = s'.seq.c ∧ s.y.agreesOn s'.y (storedBelow s.rNat s.seq.c)
  table : inPasses s.seq → s.seq.pass = s'.seq.pass ∧ s.seq.i = s'.seq.i ∧
    s.v.agreesOn s'.v (· < slotsWritten s * 32 * s.rNat)

section
variable {s s' : State}

/-! #### What a micro-step reads -/

theorem SameRun.rNat (h : SameRun s s') : s.rNat = s'.rNat := by
  obtain ⟨-, hr, -⟩ := h.visible
  exact congrArg BitVec.toNat hr

theorem SameRun.nNat (h : SameRun s s') : s.nNat = s'.nNat := by
  obtain ⟨-, -, hn, -⟩ := h.visible
  exact congrArg BitVec.toNat hn

theorem SameRun.blk_run (h : SameRun s s') (a count : Nat) :
    s.blk.run .blk s.draws a count = s'.blk.run .blk s'.draws a count := by
  obtain ⟨-, -, -, -, -, hblk, -, hdraws⟩ := h.visible
  rw [hblk, hdraws]

theorem SameRun.lastWord (h : SameRun s s') : s.lastWord = s'.lastWord := by
  obtain ⟨-, -, -, -, -, hblk, -, hdraws⟩ := h.visible
  rw [State.lastWord, State.lastWord, hblk, hdraws, h.rNat]

/-- M_COMMIT reads the chunks that this BlockMix has stored. -/
theorem SameRun.y_run (h : SameRun s s') (hlegal : seqLegal s) (hms : s.seq.ms = .mCommit) :
    s.y.run .y s.draws 0 (extent s.rNat) = s'.y.run .y s'.draws 0 (extent s.rNat) := by
  obtain ⟨-, -, -, -, -, -, -, hdraws⟩ := h.visible
  have hop : s.seq.op = .bmix ∨ s.seq.op = .romix := op_mixing_of_ms hlegal (.inr (.inr hms))
  have hc : s.seq.c = 2 * s.rNat := c_eq_of_mCommit (inBlockMix_of_mixing hlegal hop (by simp [hms, mixLabels])) hms
  obtain ⟨-, hy⟩ := h.output ⟨hop, by simp [hms]⟩
  rw [hc] at hy
  rw [← hdraws]
  refine run_eq_of_agreesOn hy (fun k hk => ?_) .y s.draws
  rw [Nat.zero_add]
  exact storedBelow_of_lt_extent hk

/-- Q_XOR reads a slot that this ROMIX has filled. -/
theorem SameRun.v_run (h : SameRun s s') (hlegal : seqLegal s) (hms : s.seq.ms = .qXor) :
    s.v.run .v (s.draws + 1) (slotAddr s.j.toNat s.rNat) (extent s.rNat) =
      s'.v.run .v (s'.draws + 1) (slotAddr s'.j.toNat s.rNat) (extent s.rNat) := by
  obtain ⟨-, -, -, -, hj, -, -, hdraws⟩ := h.visible
  have hop : s.seq.op = .romix := op_eq_romix_of_ms hlegal (.inr (.inl hms))
  have hinit : s.seq.ms ≠ .qInit := by simp [hms]
  have hfinish : s.seq.ms ≠ .finish := by simp [hms]
  obtain ⟨hpass, hlt⟩ := inRomixStep_qXor (inRomixStep_of_seqLegal hlegal hop hinit hfinish) hms
  obtain ⟨-, -, hv⟩ := h.table ⟨hop, hinit, hfinish⟩
  rw [slotsWritten_mix hpass] at hv
  rw [← hdraws, ← hj]
  refine run_eq_of_agreesOn hv (fun k hk => ?_) .v (s.draws + 1)
  exact (Nat.add_lt_add_left hk _).trans_le (slotAddr_add_extent_le s.rNat hlt)

/-! #### What the two states agree on after a micro-step -/

/-- The draws that a micro-step makes (log 13). -/
def MicroLabel.drawsTaken : MicroLabel → Nat
  | .kLoadX | .mInit | .mXor | .mCommit | .fIfy | .qSnap | .qIdx => 1
  | .qXor => 2
  | _ => 0

theorem advanced_draws (s : State) : s.advanced.draws = s.draws + s.seq.ms.drawsTaken := by
  rw [State.advanced]
  cases s.seq.ms <;> simp [MicroLabel.drawsTaken]

theorem SameRun.status_advanced (h : SameRun s s') : s.advanced.status = s'.advanced.status := by
  obtain ⟨hstatus, -⟩ := h.visible
  by_cases hms : s.seq.ms = .finish
  · rw [advanced_of_finish hms, advanced_of_finish (h.ms ▸ hms)]
    exact congrArg Status.finished hstatus
  · rwa [advanced_status hms, advanced_status (h.ms ▸ hms)]

theorem SameRun.blk_advanced (h : SameRun s s') (hlegal : seqLegal s) : s.advanced.blk = s'.advanced.blk := by
  obtain ⟨-, -, -, -, -, hblk, -, -⟩ := h.visible
  cases hms : s.seq.ms with
  | kStoreX =>
    rw [advanced_blk_of_kStoreX hms, advanced_blk_of_kStoreX (h.ms ▸ hms), hblk, h.xs (by simp [xsLive, hms])]
  | mCommit =>
    rw [advanced_blk_of_mCommit hms, advanced_blk_of_mCommit (h.ms ▸ hms), hblk, h.y_run hlegal hms, ← h.rNat]
  | qXor =>
    rw [advanced_blk_of_qXor hms, advanced_blk_of_qXor (h.ms ▸ hms), h.blk_run, h.v_run hlegal hms, hblk, ← h.rNat]
  | _ =>
    rw [advanced_blk (by simp [hms]) (by simp [hms]) (by simp [hms]),
      advanced_blk (by simp [← h.ms, hms]) (by simp [← h.ms, hms]) (by simp [← h.ms, hms]), hblk]

theorem SameRun.ify_j_advanced (h : SameRun s s') :
    s.advanced.ify = s'.advanced.ify ∧ s.advanced.j = s'.advanced.j := by
  obtain ⟨-, -, -, hify, hj, -, -, -⟩ := h.visible
  cases hms : s.seq.ms with
  | fIfy =>
    rw [State.advanced, State.advanced, ← h.ms, hms]
    exact ⟨h.lastWord, hj⟩
  | qIdx =>
    rw [State.advanced, State.advanced, ← h.ms, hms]
    exact ⟨h.lastWord, by simp [h.lastWord, h.nNat]⟩
  | _ =>
    rw [advanced_ify (by simp [hms]) (by simp [hms]), advanced_ify (by simp [← h.ms, hms]) (by simp [← h.ms, hms]),
      advanced_j (by simp [hms]), advanced_j (by simp [← h.ms, hms])]
    exact ⟨hify, hj⟩

theorem SameRun.visible_advanced (h : SameRun s s') (hlegal : seqLegal s) :
    Claims.visibleAgree s.advanced s'.advanced := by
  have hstatus := h.status_advanced
  have hblk := h.blk_advanced hlegal
  obtain ⟨hify, hj⟩ := h.ify_j_advanced
  obtain ⟨-, hr, hn, -, -, -, hparams, hdraws⟩ := h.visible
  refine ⟨hstatus, ?_, ?_, hify, hj, hblk, ?_, ?_⟩
  · rwa [advanced_r, advanced_r]
  · rwa [advanced_n, advanced_n]
  · rwa [advanced_params, advanced_params]
  · rw [advanced_draws, advanced_draws, hdraws, h.ms]

theorem SameRun.xs_advanced (h : SameRun s s') (hlegal : seqLegal s) (hlive : xsLive s.advanced.seq.ms) :
    s.advanced.xs = s'.advanced.xs := by
  have hxs := h.xs
  have hbanks := h.banks
  rw [advanced_seq] at hlive
  cases hms : s.seq.ms with
  | kLoadX =>
    rw [State.advanced, State.advanced, ← h.ms, hms]
    exact h.blk_run 0 16
  | mInit =>
    rw [State.advanced, State.advanced, ← h.ms, hms, ← h.rNat]
    exact h.blk_run _ 16
  | sFf =>
    obtain ⟨hinB, hb, -⟩ := hbanks (.inr hms)
    rw [State.advanced, State.advanced, ← h.ms, hms, hinB, hb]
    simp
  | mXor =>
    obtain ⟨hc, -⟩ := h.output ⟨op_mixing_of_ms hlegal (.inl hms), .inl hms⟩
    rw [State.advanced, State.advanced, ← h.ms, hms, hxs (by simp [xsLive, hms]), ← hc]
    simp [h.blk_run]
  | mStore =>
    rw [advanced_xs (by simp [hms]) (by simp [hms]) (by simp [hms]) (by simp [hms]),
      advanced_xs (by simp [← h.ms, hms]) (by simp [← h.ms, hms]) (by simp [← h.ms, hms]) (by simp [← h.ms, hms])]
    exact hxs (by simp [xsLive, hms])
  | qNext => rcases advanced_ms s.seq s.nNat with hat | hat | hat <;> simp [xsLive, SeqPos.next, hms, hat] at hlive
  | _ => simp [xsLive, SeqPos.next, hms, ite_eq_iff] at hlive

theorem SameRun.banks_advanced (h : SameRun s s') (hlive : banksLive s.advanced.seq.ms) :
    s.advanced.inB = s'.advanced.inB ∧ s.advanced.b = s'.advanced.b ∧ s.advanced.seq.d = s'.advanced.seq.d := by
  have hxs := h.xs
  have hbanks := h.banks
  rw [advanced_seq] at hlive
  cases hms : s.seq.ms with
  | sLoad =>
    rw [State.advanced, State.advanced, ← h.ms, hms, hxs (by simp [xsLive, hms])]
    simp
  | sDr =>
    obtain ⟨hinB, hb, hd⟩ := hbanks (.inl hms)
    rw [State.advanced, State.advanced, ← h.ms, hms, hb, hd]
    simp [hinB]
  | qNext => rcases advanced_ms s.seq s.nNat with hat | hat | hat <;> simp [banksLive, SeqPos.next, hms, hat] at hlive
  | _ => simp [banksLive, SeqPos.next, hms, labelAfterEvaluation, ite_eq_iff] at hlive

theorem SameRun.output_advanced (h : SameRun s s') (hlegal : seqLegal s) (hstores : storesChunks s.advanced.seq) :
    s.advanced.seq.c = s'.advanced.seq.c ∧
      s.advanced.y.agreesOn s'.advanced.y (storedBelow s.rNat s.advanced.seq.c) := by
  rw [advanced_seq] at hstores ⊢
  rw [advanced_seq]
  obtain hinit | hbefore := storesChunks_of_next hlegal hstores
  · have hc : (s.seq.next s.rNat s.nNat).c = 0 := by rw [SeqPos.next, hinit]
    have hc' : (s'.seq.next s'.rNat s'.nNat).c = 0 := by rw [SeqPos.next, ← h.ms, hinit]
    rw [hc, hc']
    exact ⟨rfl, fun a ha => absurd ha (not_storedBelow_zero _ a)⟩
  · obtain ⟨hc, hy⟩ := h.output hbefore
    by_cases hstore : s.seq.ms = .mStore
    · have hnext : (s.seq.next s.rNat s.nNat).c = s.seq.c + 1 := by rw [SeqPos.next, hstore]
      have hnext' : (s'.seq.next s'.rNat s'.nNat).c = s.seq.c + 1 := by rw [SeqPos.next, ← h.ms, hstore, hc]
      rw [hnext, hnext', advanced_y_of_mStore hstore, advanced_y_of_mStore (h.ms ▸ hstore), ← h.rNat, ← hc,
        ← h.xs (by simp [xsLive, hstore])]
      exact ⟨rfl, agreesOn_writeRun s.xs hy fun x => storedBelow_succ⟩
    · have hinit : s.seq.ms ≠ .mInit := fun hms => by simpa [hms] using hbefore.2
      rw [next_c hinit hstore, next_c (h.ms ▸ hinit) (h.ms ▸ hstore), advanced_y hstore, advanced_y (h.ms ▸ hstore)]
      exact ⟨hc, hy⟩

/-- The pass and its counter after a micro-step depend, of the position before, only on the label and themselves. -/
theorem next_pass_i_congr {q q' : SeqPos} {r n : Nat} (hms : q.ms = q'.ms) (hpass : q.pass = q'.pass)
    (hi : q.i = q'.i) :
    (q.next r n).pass = (q'.next r n).pass ∧ (q.next r n).i = (q'.next r n).i := by
  rw [SeqPos.next, SeqPos.next, ← hms]
  cases q.ms with
  | qNext =>
    rw [SeqPos.advanced, SeqPos.advanced, ← hpass, ← hi]
    cases q.pass with
    | fill => by_cases hlast : q.i + 1 < n <;> simp [hlast]
    | mix => simp
  | _ => simp [hpass, hi]

theorem SameRun.table_advanced (h : SameRun s s') (hlegal : seqLegal s) (hpasses : inPasses s.advanced.seq) :
    s.advanced.seq.pass = s'.advanced.seq.pass ∧ s.advanced.seq.i = s'.advanced.seq.i ∧
      s.advanced.v.agreesOn s'.advanced.v (· < slotsWritten s.advanced * 32 * s.rNat) := by
  rw [advanced_seq] at hpasses
  obtain ⟨hop, hinit | hbefore⟩ := inPasses_of_next hpasses
  · have hseq : s.advanced.seq = { s.seq with ms := .qSnap, pass := .fill, i := 0 } := by
      rw [advanced_seq, SeqPos.next, hinit]
    have hseq' : s'.advanced.seq = { s'.seq with ms := .qSnap, pass := .fill, i := 0 } := by
      rw [advanced_seq, SeqPos.next, ← h.ms, hinit]
    rw [hseq, hseq', slotsWritten_advanced_of_qInit hinit]
    refine ⟨rfl, rfl, fun a ha => ?_⟩
    simp at ha
  · obtain ⟨hpass, hi, hv⟩ := h.table hbefore
    obtain ⟨-, hinit, hfinish⟩ := hbefore
    have hstep := inRomixStep_of_seqLegal hlegal hop hinit hfinish
    rw [advanced_seq, advanced_seq, ← h.rNat, ← h.nNat]
    obtain ⟨hpass', hi'⟩ := next_pass_i_congr (r := s.rNat) (n := s.nNat) h.ms hpass hi
    refine ⟨hpass', hi', ?_⟩
    by_cases hsnap : s.seq.ms = .qSnap
    · obtain ⟨hfill, -⟩ := inRomixStep_qSnap hstep hsnap
      rw [slotsWritten_of_qSnap hsnap hfill] at hv
      rw [advanced_v_of_qSnap hsnap, advanced_v_of_qSnap (h.ms ▸ hsnap), slotsWritten_advanced_of_qSnap hsnap hfill,
        ← h.rNat, ← hi, ← h.blk_run]
      exact agreesOn_writeRun _ hv fun x => lt_slots_succ
    · rwa [advanced_v hsnap, advanced_v (h.ms ▸ hsnap), slotsWritten_advanced hinit hsnap hstep.1]

theorem SameRun.op_advanced (h : SameRun s s') : s.advanced.seq.op = s'.advanced.seq.op := by
  by_cases hms : s.seq.ms = .finish
  · rw [advanced_of_finish hms, advanced_of_finish (h.ms ▸ hms)]
    rfl
  · rw [advanced_seq_op hms, advanced_seq_op (h.ms ▸ hms), h.op]

/-- The label that follows depends on the counters at S_DR, M_STORE and Q_NEXT alone, where they agree. -/
theorem SameRun.ms_advanced (h : SameRun s s') (hlegal : seqLegal s) : s.advanced.seq.ms = s'.advanced.seq.ms := by
  have hop := h.op
  rw [advanced_seq, advanced_seq, SeqPos.next, SeqPos.next, ← h.ms, ← h.rNat, ← h.nNat]
  cases hms : s.seq.ms with
  | sDr =>
    obtain ⟨-, -, hd⟩ := h.banks (.inl hms)
    simp only [hd]
  | mStore =>
    obtain ⟨hc, -⟩ := h.output ⟨op_mixing_of_ms hlegal (.inr (.inl hms)), by simp [hms]⟩
    simp only [hc]
  | qNext =>
    obtain ⟨hpass, hi, -⟩ := h.table ⟨op_eq_romix_of_ms hlegal (.inr (.inr hms)), by simp [hms], by simp [hms]⟩
    rw [SeqPos.advanced, SeqPos.advanced, ← hpass, ← hi]
    cases s.seq.pass with
    | fill => by_cases hlast : s.seq.i + 1 < s.nNat <;> simp [hlast]
    | mix => rfl
  | idle => exact h.ms
  | _ => simp only [hop]

/-- Two runs that agree go on agreeing. -/
theorem SameRun.advanced (h : SameRun s s') (hlegal : seqLegal s) : SameRun s.advanced s'.advanced where
  visible := h.visible_advanced hlegal
  op := h.op_advanced
  ms := h.ms_advanced hlegal
  xs := h.xs_advanced hlegal
  banks := h.banks_advanced
  output := by
    rw [advanced_rNat]
    exact h.output_advanced hlegal
  table := by
    rw [advanced_rNat]
    exact h.table_advanced hlegal

theorem SameRun.iterate_advanced (h : SameRun s s') (hlegal : seqLegal s) (count : Nat) :
    SameRun (State.advanced^[count] s) (State.advanced^[count] s') := by
  induction count with
  | zero => exact h
  | succ count ih =>
    rw [Function.iterate_succ_apply', Function.iterate_succ_apply']
    exact ih.advanced (seqLegal_iterate_advanced hlegal count)

/-! ### The statement -/

/-- A command that is accepted has no hidden state of its own yet. -/
theorem sameRun_accept (h : Claims.visibleAgree s s') (i : Instr) : SameRun (accept i s) (accept i s') where
  visible := by
    obtain ⟨-, hr, hn, hify, hj, hblk, hparams, hdraws⟩ := h
    exact ⟨rfl, hr, hn, hify, hj, hblk, hparams, hdraws⟩
  op := rfl
  ms := rfl
  xs hlive := by cases i <;> simp [xsLive, firstLabel] at hlive
  banks hlive := by cases i <;> simp [banksLive, firstLabel] at hlive
  output hstores := absurd hstores (not_storesChunks_accept i s)
  table hpasses := absurd hpasses (not_inPasses_accept i s)

theorem visibleAgree_reject (h : Claims.visibleAgree s s') (v : Verdict) :
    Claims.visibleAgree (reject v s) (reject v s') := by
  obtain ⟨-, hr, hn, hify, hj, hblk, hparams, hdraws⟩ := h
  exact ⟨rfl, hr, hn, hify, hj, hblk, hparams, hdraws⟩

/-- Settles O23: a command is ignored or rejected by what is visible; an accepted one has its run in common. -/
theorem hiddenStateNeverInfluencesCommands : Obligations.HiddenStateNeverInfluencesCommands := by
  unfold Obligations.HiddenStateNeverInfluencesCommands
  intro i s s' t h hexec
  have hvisible := h
  obtain ⟨hstatus, hr, hn, -, -, -, hparams, -⟩ := h
  have hrNat : s.rNat = s'.rNat := congrArg BitVec.toNat hr
  have hnNat : s.nNat = s'.nNat := congrArg BitVec.toNat hn
  cases hbusy : s.status.busy with
  | true =>
    obtain rfl := Host.Outcome.next.inj ((exec_of_busy hbusy i).symm.trans hexec)
    exact ⟨s', exec_of_busy (hstatus ▸ hbusy) i, hvisible⟩
  | false =>
    have hidle' : s'.status.busy = false := hstatus ▸ hbusy
    by_cases hcheck : checkInstr i s.rNat s.nNat s.params = .accepted
    · have hcheck' : checkInstr i s'.rNat s'.nNat s'.params = .accepted := by rwa [← hrNat, ← hnNat, ← hparams]
      obtain rfl := Host.Outcome.next.inj ((exec_of_accepted hbusy hcheck).symm.trans hexec)
      refine ⟨_, exec_of_accepted hidle' hcheck', ?_⟩
      rw [← hrNat, ← hnNat]
      exact ((sameRun_accept hvisible i).iterate_advanced (seqLegal_accept hcheck) _).visible
    · have hexec' : exec i s' = .next (reject (checkInstr i s.rNat s.nNat s.params) s') :=
        exec_of_check_ne_accepted hidle' (by rw [hrNat, hnNat, hparams]) hcheck
      obtain rfl := Host.Outcome.next.inj ((exec_of_check_ne_accepted hbusy rfl hcheck).symm.trans hexec)
      exact ⟨_, hexec', visibleAgree_reject hvisible _⟩

end

end Sys2Proof.Machine
end

section
/-! PROOFS. The rounds of Salsa20/8 as lists of statements (R123 to R127): a doubleround is the 32 of R126, and
quarter-rounds on disjoint words may change places. -/

namespace Sys2Proof.Machine

/-- A statement `B[x] ^= R(B[p] + B[q], c)` of R126, as `(x, p, q, c)`. -/
abbrev RoundStatement := Fin 16 × Fin 16 × Fin 16 × Nat

/-- The four statements of a quarter-round (R123). -/
def quarterStatements (t : Fin 16 × Fin 16 × Fin 16 × Fin 16) : List RoundStatement :=
  let (a, b, c, d) := t
  [(b, a, d, 7), (c, b, a, 9), (d, c, b, 13), (a, d, c, 18)]

theorem quarterRounds_eq_foldl (ts : List (Fin 16 × Fin 16 × Fin 16 × Fin 16)) (x : Bank) :
    quarterRounds ts x = (ts.flatMap quarterStatements).foldl Claims.xorRotate x := by
  induction ts generalizing x with
  | nil => rfl
  | cons t ts ih =>
    obtain ⟨a, b, c, d⟩ := t
    rw [quarterRounds_cons, ih, List.flatMap_cons, List.foldl_append, quarterRound_eq_xorRotate, quarterStatements]

/-- Settles O8: the statements of the eight quarter-rounds, one after another, are the list of R126. -/
theorem doubleRoundIsThirtyTwoStatements : Obligations.DoubleRoundIsThirtyTwoStatements := by
  unfold Obligations.DoubleRoundIsThirtyTwoStatements
  intro x
  have hlist : columnSet.flatMap quarterStatements ++ rowSet.flatMap quarterStatements =
      Claims.doubleRoundStatements := by decide
  rw [doubleRound, columnRound, rowRound, quarterRounds_eq_foldl, quarterRounds_eq_foldl, ← List.foldl_append, hlist]

/-! ### Quarter-rounds on disjoint words -/

/-- Neither statement sets a word that the other reads or sets. -/
def RoundStatement.apart (p q : RoundStatement) : Prop :=
  p.1 ≠ q.1 ∧ p.1 ≠ q.2.1 ∧ p.1 ≠ q.2.2.1 ∧ q.1 ≠ p.2.1 ∧ q.1 ≠ p.2.2.1

theorem xorRotate_comm {p q : RoundStatement} (h : p.apart q) (x : Bank) :
    Claims.xorRotate (Claims.xorRotate x p) q = Claims.xorRotate (Claims.xorRotate x q) p := by
  obtain ⟨k, a, b, n⟩ := p
  obtain ⟨l, c, d, m⟩ := q
  obtain ⟨hkl, hkc, hkd, hla, hlb⟩ : k ≠ l ∧ k ≠ c ∧ k ≠ d ∧ l ≠ a ∧ l ≠ b := h
  refine Vector.ext fun i hi => ?_
  have hword (j : Fin 16) : (Claims.xorRotate (Claims.xorRotate x (k, a, b, n)) (l, c, d, m))[j] =
      (Claims.xorRotate (Claims.xorRotate x (l, c, d, m)) (k, a, b, n))[j] := by
    by_cases hjk : j = k
    · subst hjk
      rw [getElem_xorRotate_other _ hkl, getElem_xorRotate_same, getElem_xorRotate_same,
        getElem_xorRotate_other _ hkl, getElem_xorRotate_other _ hla.symm, getElem_xorRotate_other _ hlb.symm]
    · by_cases hjl : j = l
      · subst hjl
        rw [getElem_xorRotate_other _ hkl.symm, getElem_xorRotate_same, getElem_xorRotate_same,
          getElem_xorRotate_other _ hkl.symm, getElem_xorRotate_other _ hkc.symm, getElem_xorRotate_other _ hkd.symm]
      · rw [getElem_xorRotate_other _ hjl, getElem_xorRotate_other _ hjk, getElem_xorRotate_other _ hjk,
          getElem_xorRotate_other _ hjl]
  exact hword ⟨i, hi⟩

theorem foldl_xorRotate_comm_one {p : RoundStatement} {qs : List RoundStatement} (h : ∀ q ∈ qs, p.apart q) (x : Bank) :
    qs.foldl Claims.xorRotate (Claims.xorRotate x p) = Claims.xorRotate (qs.foldl Claims.xorRotate x) p := by
  induction qs generalizing x with
  | nil => rfl
  | cons q qs ih =>
    obtain ⟨hq, hqs⟩ := List.forall_mem_cons.mp h
    rw [List.foldl_cons, List.foldl_cons, xorRotate_comm hq, ih hqs]

theorem foldl_xorRotate_comm {ps qs : List RoundStatement} (h : ∀ p ∈ ps, ∀ q ∈ qs, p.apart q) (x : Bank) :
    qs.foldl Claims.xorRotate (ps.foldl Claims.xorRotate x) =
      ps.foldl Claims.xorRotate (qs.foldl Claims.xorRotate x) := by
  induction ps generalizing x with
  | nil => rfl
  | cons p ps ih =>
    obtain ⟨hp, hps⟩ := List.forall_mem_cons.mp h
    rw [List.foldl_cons, List.foldl_cons, ih hps, foldl_xorRotate_comm_one hp]

/-- The words that a quarter-round reads and sets. -/
def quarterWords (t : Fin 16 × Fin 16 × Fin 16 × Fin 16) : List (Fin 16) := [t.1, t.2.1, t.2.2.1, t.2.2.2]

theorem mem_quarterWords {t : Fin 16 × Fin 16 × Fin 16 × Fin 16} {p : RoundStatement} (h : p ∈ quarterStatements t) :
    p.1 ∈ quarterWords t ∧ p.2.1 ∈ quarterWords t ∧ p.2.2.1 ∈ quarterWords t := by
  simp only [quarterStatements, List.mem_cons, List.not_mem_nil, or_false] at h
  rcases h with rfl | rfl | rfl | rfl <;> simp [quarterWords]

theorem apart_of_disjoint {t u : Fin 16 × Fin 16 × Fin 16 × Fin 16} (h : (quarterWords t).Disjoint (quarterWords u))
    {p q : RoundStatement} (hp : p ∈ quarterStatements t) (hq : q ∈ quarterStatements u) : p.apart q := by
  obtain ⟨hpx, hpa, hpb⟩ := mem_quarterWords hp
  obtain ⟨hqx, hqa, hqb⟩ := mem_quarterWords hq
  have hne {v w : Fin 16} (hv : v ∈ quarterWords t) (hw : w ∈ quarterWords u) : v ≠ w := fun e => h hv (e ▸ hw)
  exact ⟨hne hpx hqx, hne hpx hqa, hne hpx hqb, (hne hpa hqx).symm, (hne hpb hqx).symm⟩

/-- Any two of the tuples are the same or name disjoint words. -/
def tuplesDisjoint (ts : List (Fin 16 × Fin 16 × Fin 16 × Fin 16)) : Prop :=
  ∀ t ∈ ts, ∀ u ∈ ts, t = u ∨ (quarterWords t).Disjoint (quarterWords u)

theorem tuplesDisjoint_columnSet : tuplesDisjoint columnSet := by
  unfold tuplesDisjoint List.Disjoint
  decide

theorem tuplesDisjoint_rowSet : tuplesDisjoint rowSet := by
  unfold tuplesDisjoint List.Disjoint
  decide

theorem quarterRounds_perm {ts us : List (Fin 16 × Fin 16 × Fin 16 × Fin 16)} (hperm : ts.Perm us)
    (hround : tuplesDisjoint us) (x : Bank) : quarterRounds ts x = quarterRounds us x := by
  refine hperm.foldl_eq' (fun t ht u hu z => ?_) x
  obtain rfl | hdisjoint := hround t (hperm.mem_iff.mp ht) u (hperm.mem_iff.mp hu)
  · rfl
  · obtain ⟨a, b, c, d⟩ := t
    obtain ⟨a', b', c', d'⟩ := u
    simp only [quarterRound_eq_xorRotate]
    exact foldl_xorRotate_comm (fun p hp q hq => apart_of_disjoint hdisjoint hp hq) z

/-- Settles O9: the index sets of each round are disjoint, so its quarter-rounds may change places. -/
theorem quarterRoundOrderInsideRoundIrrelevant : Obligations.QuarterRoundOrderInsideRoundIrrelevant := by
  unfold Obligations.QuarterRoundOrderInsideRoundIrrelevant
  exact fun x ts => ⟨fun h => quarterRounds_perm h tuplesDisjoint_columnSet x,
    fun h => quarterRounds_perm h tuplesDisjoint_rowSet x⟩

end Sys2Proof.Machine
end

section
/-! PROOFS. BlockMix and ROMix as functions: the chunk destination (R154, R160), the two passes as iterations (R181,
R187), and the all-zero block (R158, R186 (c)). -/

namespace Sys2Proof.Machine

variable {r n : Nat}

/-! ### The chunk destination -/

theorem dst_even {i : Nat} (hi : i < 2 * r) (heven : i % 2 = 0) :
    dst i r = i / 2 ∧ dst i r < r ∧ chunkAddr (dst i r) = 8 * i := by
  have hdst : dst i r = i / 2 := if_pos heven
  rw [hdst, chunkAddr]
  omega

theorem dst_odd {i : Nat} (hi : i < 2 * r) (hodd : i % 2 = 1) :
    dst i r = r + (i - 1) / 2 ∧ r ≤ dst i r ∧ dst i r < 2 * r ∧ chunkAddr (dst i r) = 16 * r + 8 * (i - 1) := by
  have hdst : dst i r = r + (i - 1) / 2 := if_neg (by omega)
  rw [hdst, chunkAddr]
  omega

/-- Settles O12: the two cases by the parity of the index, and the bijection by the inverse. -/
theorem chunkDestinationIsBijection : Obligations.ChunkDestinationIsBijection := by
  unfold Obligations.ChunkDestinationIsBijection
  refine fun r i hi => ⟨dst_even hi, dst_odd hi, fun j hj heq => ?_, dstInverse i r, dstInverse_lt hi,
    dst_dstInverse i r⟩
  rw [← dstInverse_dst hj, heq, dstInverse_dst hi]

/-! ### The two passes -/

theorem fillPass_block (n : Nat) (b : Block r) : (fillPass n b).2 = blockMix^[n] b := by
  induction n with
  | zero => rfl
  | succ n ih => rw [fillPass_succ, ih, Function.iterate_succ_apply']

theorem getElem_fillPass (b : Block r) {i : Nat} (hi : i < n) : (fillPass n b).1[i] = blockMix^[i] b := by
  induction n with
  | zero => exact absurd hi (Nat.not_lt_zero i)
  | succ n ih =>
    simp only [fillPass_succ]
    by_cases hlast : i = n
    · subst hlast
      rw [Vector.getElem_push_eq, fillPass_block]
    · rw [Vector.getElem_push_lt (by omega), ih]

/-- Settles O16: each fill step stores the block it finds, then applies BlockMix. -/
theorem fillPassSnapshotsTrajectory : Obligations.FillPassSnapshotsTrajectory := by
  unfold Obligations.FillPassSnapshotsTrajectory
  exact fun r n b => ⟨Vector.length_toList, fillPass_block n b, fun i hi => getElem_fillPass b hi⟩

theorem mixPass_eq_iterate (hr : 1 ≤ r) (hn : 1 ≤ n) (vs : Vector (Block r) n) (count : Nat) (x : Block r) :
    mixPass hr hn vs count x = (mixStep hr hn vs)^[count] x := by
  induction count generalizing x with
  | zero => rfl
  | succ count ih => rw [mixPass_succ, ih, Function.iterate_succ_apply]

theorem mixStep_fillPass (hr : 1 ≤ r) (hn : 1 ≤ n) (b z : Block r) :
    mixStep hr hn (fillPass n b).1 z =
      blockMix (xorRun z (blockMix^[(integerify hr z).toNat % n] b)) := by
  rw [mixStep, getElem_fillPass, tableIndex]

theorem roMix_eq_iterate (hr : 1 ≤ r) (hn : 1 ≤ n) (b : Block r) :
    roMix hr hn b =
      (fun z => blockMix (xorRun z (blockMix^[(integerify hr z).toNat % n] b)))^[n] (blockMix^[n] b) := by
  rw [roMix, mixPass_eq_iterate, fillPass_block, funext (mixStep_fillPass hr hn b)]

/-- Settles O15: the mix pass iterates the mix step, whose slots are the trajectory of the fill pass. -/
theorem roMixIsFillThenMix : Obligations.RoMixIsFillThenMix := by
  unfold Obligations.RoMixIsFillThenMix
  exact fun r n hr hn b => roMix_eq_iterate hr hn b

/-! ### The all-zero block -/

theorem xorRun_zero (count : Nat) :
    xorRun (Vector.replicate count 0) (Vector.replicate count 0) = Vector.replicate count 0 :=
  Vector.ext fun k hk => by simp [xorW]

theorem chunkOf_zero {i : Nat} (hi : i < 2 * r) :
    chunkOf (Vector.replicate (32 * r) 0 : Block r) i hi = Vector.replicate 16 0 :=
  Vector.ext fun k hk => by simp [getElem_chunkOf _ hi hk]

theorem mixState_zeroBlock {i : Nat} (hi : i < 2 * r) :
    mixState (Vector.replicate (32 * r) 0 : Block r) i hi = Vector.replicate 16 0 := by
  induction i with
  | zero => rw [mixState_zero, chunkOf_zero, chunkOf_zero, xorRun_zero, salsa8_zero]
  | succ i ih => rw [mixState_succ, ih, chunkOf_zero, xorRun_zero, salsa8_zero]

theorem blockMix_zeroBlock (r : Nat) :
    blockMix (Vector.replicate (32 * r) 0 : Block r) = Vector.replicate (32 * r) 0 :=
  Vector.ext fun k hk => by simp only [getElem_blockMix, mixState_zeroBlock, Vector.getElem_replicate]

theorem roMix_zeroBlock (hr : 1 ≤ r) (hn : 1 ≤ n) :
    roMix hr hn (Vector.replicate (32 * r) 0) = Vector.replicate (32 * r) 0 := by
  have hfixed (count : Nat) : blockMix^[count] (Vector.replicate (32 * r) 0 : Block r) = Vector.replicate (32 * r) 0 :=
    Function.iterate_fixed (blockMix_zeroBlock r) count
  rw [roMix_eq_iterate]
  simp only [hfixed]
  refine Function.iterate_fixed ?_ n
  rw [xorRun_zero, blockMix_zeroBlock]

/-- Settles O11: every operation of the two functions takes zeros to zeros. -/
theorem zeroBlockIsFixedPoint : Obligations.ZeroBlockIsFixedPoint := by
  unfold Obligations.ZeroBlockIsFixedPoint
  exact fun r => ⟨blockMix_zeroBlock r, fun n hr hn => roMix_zeroBlock hr hn⟩

end Sys2Proof.Machine
end

section
/-! PROOFS. The host's side: the word of STATUS (R23), accesses while BUSY (R206), what an access may change and what a
read may depend on (R200, R230), the protocol (R207), and the moves that load words (R97). -/

namespace Sys2Proof.Machine

/-! ### The word of STATUS -/

/-- The low bits of STATUS (R23): BUSY and DONE. -/
theorem status_flags_toNat (busy done : Bool) :
    ((BitVec.ofBool done).setWidth 32 <<< 1 ||| (BitVec.ofBool busy).setWidth 32).toNat =
      (if busy then 1 else 0) + (if done then 2 else 0) := by
  cases busy <;> cases done <;> rfl

/-- ERR stands above the bits of BUSY and DONE, so the union is the sum. -/
theorem status_word_toNat (st : Status) :
    st.word.toNat = (if st.busy then 1 else 0) + (if st.done then 2 else 0) + 16 * st.err.toNat := by
  have herr : st.err.toNat < 16 := st.err.isLt
  have hfield : (st.err.setWidth 32 <<< 4).toNat = st.err.toNat <<< 4 := by
    rw [BitVec.toNat_shiftLeft, BitVec.toNat_setWidth, Nat.shiftLeft_eq]
    omega
  have hflags : (if st.busy then 1 else 0) + (if st.done then 2 else 0) < 2 ^ 4 := by
    split <;> split <;> decide
  rw [Status.word, BitVec.or_assoc, BitVec.toNat_or, hfield, status_flags_toNat,
    ← Nat.shiftLeft_add_eq_or_of_lt hflags, Nat.shiftLeft_eq]
  omega

/-- Settles O27: the fields of STATUS do not overlap. -/
theorem statusWordLayout : Obligations.StatusWordLayout := by
  unfold Obligations.StatusWordLayout
  exact status_word_toNat

/-! ### Accesses while BUSY -/

section
variable {s : State}

/-- A state in which a read has been recorded differs in the record alone. -/
theorem eq_of_eq_recorded {t : State} (h : ∃ w d, t = s.recorded w d) :
    t = { s with reply := t.reply, draws := t.draws } := by
  obtain ⟨w, d, rfl⟩ := h
  rfl

/-- Settles O31: writes and commands are dropped by the guard on BUSY, and a read is recorded and does nothing else. -/
theorem accessesWhileBusyAreIgnored : Obligations.AccessesWhileBusyAreIgnored := by
  unfold Obligations.AccessesWhileBusyAreIgnored
  exact fun s hbusy => ⟨writeCsr_of_busy hbusy, storeBlk_of_busy hbusy, readCsr_status s,
    fun i => eq_of_eq_recorded (readCsr_eq_recorded i s), fun a => eq_of_eq_recorded (readBlk_eq_recorded a s),
    exec_of_busy hbusy, commandMove_of_busy hbusy⟩

/-! ### What an access may change -/

/-- What no host access changes, whatever it is: everything but STATUS, R, N, BLK, SEQ and the record of reads. -/
def accessFrame (s t : State) : Prop :=
  t.ify = s.ify ∧ t.j = s.j ∧ t.xs = s.xs ∧ t.inB = s.inB ∧ t.b = s.b ∧ t.y = s.y ∧ t.v = s.v ∧
    t.params = s.params ∧ t.agenda = s.agenda

theorem accessFrame_issueIdle (w : Word) (s : State) : accessFrame s (issueIdle w s) := by
  obtain ⟨i, -, h⟩ | ⟨v, -, h⟩ := issueIdle_cases w s <;> rw [h] <;> exact ⟨rfl, rfl, rfl, rfl, rfl, rfl, rfl, rfl, rfl⟩

theorem accessFrame_hostAccess (a : Access) (s : State) : accessFrame s (hostAccess a s) := by
  obtain ⟨w, d, h⟩ | ⟨-, ⟨v, -, h⟩ | ⟨v, h⟩ | ⟨v, h⟩ | ⟨b, v, -, h⟩⟩ := hostAccess_cases a s <;> rw [h]
  case inr.inl => exact accessFrame_issueIdle v s
  all_goals exact ⟨rfl, rfl, rfl, rfl, rfl, rfl, rfl, rfl, rfl⟩

/-- R230: STATUS and SEQ change at the issue of a command alone. -/
theorem hostAccess_status_seq {a : Access} (h : (∀ w, a ≠ .wcsr 0 w) ∨ s.status.busy = true) :
    (hostAccess a s).status = s.status ∧ (hostAccess a s).seq = s.seq := by
  obtain ⟨w, d, heq⟩ | ⟨hidle, ⟨v, rfl, -⟩ | ⟨v, heq⟩ | ⟨v, heq⟩ | ⟨b, v, -, heq⟩⟩ := hostAccess_cases a s
  case inr.inl =>
    obtain h | h := h
    · exact absurd rfl (h v)
    · simp [hidle] at h
  all_goals exact heq ▸ ⟨rfl, rfl⟩

/-! ### What a read may depend on -/

theorem readCsr_reply (i : Nat) (s : State) :
    (readCsr i s).reply = some (if i = 1 then s.status.word
      else if s.status.busy then Config.unspecified .busCsr s.draws i else s.csrWord (csrOfIndex i)) := by
  by_cases hi : i = 1
  · rw [if_pos hi, hi, readCsr_status]
    rfl
  · rw [if_neg hi]
    cases hbusy : s.status.busy with
    | true => rw [readCsr_of_busy hbusy hi]; rfl
    | false => rw [readCsr_of_idle hbusy]; rfl

theorem readBlk_reply (a : Nat) (s : State) :
    (readBlk a s).reply = some (if s.status.busy then Config.unspecified .busBlk s.draws a
      else if s.params.blkWords ≤ a then 0 else s.blk.word .blk s.draws a) := by
  cases hbusy : s.status.busy with
  | true => rw [readBlk_of_busy hbusy]; rfl
  | false =>
    by_cases ha : s.params.blkWords ≤ a
    · rw [readBlk_outside hbusy ha, if_pos ha]; rfl
    · cases hw : s.blk.read? a with
      | some w => rw [readBlk_written hbusy (by omega) hw, if_neg ha, Memory.word, hw]; rfl
      | none => rw [readBlk_unwritten hbusy (by omega) hw, if_neg ha, Memory.word, hw]; rfl

theorem issueIdle_reply (w : Word) (s : State) : (issueIdle w s).reply = s.reply := by
  obtain ⟨i, -, h⟩ | ⟨v, -, h⟩ := issueIdle_cases w s <;> rw [h] <;> rfl

theorem writeCsr_reply (i : Nat) (v : Word) (s : State) : (writeCsr i v s).reply = s.reply := by
  obtain h | ⟨-, ⟨-, h⟩ | h | h⟩ := writeCsr_cases i v s <;> rw [h]
  case inr.inl => exact issueIdle_reply v s
  all_goals rfl

theorem storeBlk_reply (a : Nat) (v : Word) (s : State) : (storeBlk a v s).reply = s.reply := by
  obtain h | ⟨-, -, h⟩ := storeBlk_cases a v s
  · rw [h]
  · rw [h, setBlk_reply]

/-- R200: what a read returns depends on no bank, on neither Y nor V, and not on SEQ. -/
theorem hostAccess_reply_of_hidden (a : Access) (s : State) (xs inB b : Bank) (y v : Memory) (q : SeqPos) :
    (hostAccess a { s with xs := xs, inB := inB, b := b, y := y, v := v, seq := q }).reply =
      (hostAccess a s).reply := by
  cases a with
  | rcsr i =>
    have hword (c : Option Csr) :
        State.csrWord { s with xs := xs, inB := inB, b := b, y := y, v := v, seq := q } c = s.csrWord c := by
      cases c with
      | none => rfl
      | some c => cases c <;> rfl
    refine (readCsr_reply i _).trans ?_
    rw [hword]
    exact (readCsr_reply i s).symm
  | wcsr i w => exact (writeCsr_reply i w _).trans (writeCsr_reply i w s).symm
  | rblk a => exact (readBlk_reply a _).trans (readBlk_reply a s).symm
  | wblk a w => exact (storeBlk_reply a w _).trans (storeBlk_reply a w s).symm

/-- Settles O32: by everything a host access can do, and by the word that a read returns. -/
theorem hostAccessesNeverRaise : Obligations.HostAccessesNeverRaise := by
  unfold Obligations.HostAccessesNeverRaise
  intro a s
  obtain ⟨hify, hj, hxs, hinB, hb, hy, hv, hparams, hagenda⟩ := accessFrame_hostAccess a s
  exact ⟨hostAccess_status_seq, hify, hj, hxs, hinB, hb, hy, hv, hparams, hagenda, hostAccess_reply_of_hidden a s⟩

/-! ### The protocol -/

theorem readCsr_draws_of_keepsProtocol {i : Nat} (h : keepsProtocol s (.rcsr i) = true) :
    (readCsr i s).draws = s.draws := by
  cases hbusy : s.status.busy with
  | true =>
    have hi : i = 1 := by simpa [keepsProtocol, hbusy, csrIndex] using h
    rw [hi, readCsr_status]
    rfl
  | false => rw [readCsr_of_idle hbusy]; rfl

/-- Settles O33: a read that the protocol allows is of STATUS or while idle, a write that it allows is while idle. -/
theorem protocolAccessesAreDefined : Obligations.ProtocolAccessesAreDefined := by
  unfold Obligations.ProtocolAccessesAreDefined
  intro s
  have hidle {i : Nat} {v : Word} (h : keepsProtocol s (.wcsr i v) = true) : s.status.busy = false := by
    simpa [keepsProtocol] using h
  exact ⟨fun i h => readCsr_draws_of_keepsProtocol h, fun v h => congrArg State.r (writeCsr_r (hidle h) v),
    fun v h => congrArg State.n (writeCsr_n (hidle h) v)⟩

/-! ### Loading words -/

theorem step_wblk {a : Nat} {v : Word} {rest : List Event} (hidle : s.status.busy = false) (ha : a < s.params.blkWords)
    (hagenda : s.agenda = .host (.wblk a v) :: rest) :
    step s = .next ((s.setAgenda rest).setBlk (s.blk.write a v)) := by
  rw [step_of_agenda_cons hagenda]
  exact congrArg Host.Outcome.next (storeBlk_inside (s := s.setAgenda rest) hidle ha v)

/-- The moves of `ldw` are one run of words written to BLK. -/
theorem steps_loadWords {a : Nat} {ws : List Word} {rest : List Event} (hidle : s.status.busy = false)
    (hin : a + ws.length ≤ s.params.blkWords) (hagenda : s.agenda = loadWords a ws ++ rest) :
    steps ws.length s = .next ((s.setAgenda rest).setBlk (s.blk.writeRun a ws)) := by
  induction ws generalizing s a with
  | nil =>
    have hdone : s.agenda = rest := hagenda
    rw [← hdone]
    rfl
  | cons w ws ih =>
    rw [List.length_cons] at hin
    have hstep : step s = .next ((s.setAgenda (loadWords (a + 1) ws ++ rest)).setBlk (s.blk.write a w)) :=
      step_wblk hidle (by omega) hagenda
    have hrest := ih (s := (s.setAgenda (loadWords (a + 1) ws ++ rest)).setBlk (s.blk.write a w)) (a := a + 1) hidle
      (by simp only [setBlk_params, setAgenda_params]; omega) rfl
    rw [List.length_cons, steps_succ_of_next hstep, hrest]
    rfl

/-- Settles O35: the run of words reads back inside, and as before outside. -/
theorem loadWordsWritesConsecutiveWords : Obligations.LoadWordsWritesConsecutiveWords := by
  unfold Obligations.LoadWordsWritesConsecutiveWords
  intro s a ws rest hidle hin hagenda
  exact ⟨_, steps_loadWords hidle hin hagenda, fun k hk => read?_writeRun_inside s.blk a ws hk,
    fun x hx => read?_writeRun_outside s.blk ws hx, rfl⟩

/-! ### One step, and reset -/

theorem decode_of_decodeTableWord {nbits w : Nat} {i : Instr} (h : decodeTableWord nbits w = some i) :
    decode (fetchedWord nbits w) = .ok i := by
  unfold decodeTableWord at h
  split at h
  · cases hw : decode (fetchedWord nbits w) with
    | ok k => simpa [hw] using h
    | error e => simp [hw] at h
  · simp at h

theorem step_command {w : Word} {i : Instr} {rest : List Event} (hagenda : s.agenda = .command w :: rest)
    (hw : decode w = .ok i) : step s = exec i (s.setAgenda rest) :=
  (step_of_agenda_cons hagenda).trans (commandMove_of_decode_eq_ok hw _)

/-- Settles O36: the next move is taken off the agenda and is what its kind says. -/
theorem stepRunsDecodedCommand : Obligations.StepRunsDecodedCommand := by
  unfold Obligations.StepRunsDecodedCommand
  exact fun s rest => ⟨fun w i hagenda hw => step_command hagenda hw,
    fun nbits w i _ h => step_command (s := s.withFetchWord nbits w) rfl (decode_of_decodeTableWord h),
    fun a hagenda => step_of_agenda_cons hagenda, fun hagenda => step_of_agenda_cons hagenda, step_of_agenda_nil⟩

theorem status_word_initial : Status.initial.word = 0 := by decide

/-- Settles O37: the reset state has these values by definition, and its memories list no word. -/
theorem resetLeavesStatedValues : Obligations.ResetLeavesStatedValues := by
  unfold Obligations.ResetLeavesStatedValues
  exact ⟨status_word_initial, rfl, rfl, rfl, rfl, rfl, fun a => ⟨read?_nil a, read?_nil a, read?_nil a⟩⟩

theorem step_reset {rest : List Event} (hagenda : s.agenda = .reset :: rest) :
    step s = .next (.afterReset s.params s.draws rest s.reply) := step_of_agenda_cons hagenda

/-- Settles O38: the step is the Reset event, whatever the state. -/
theorem resetEventAbandonsCommand : Obligations.ResetEventAbandonsCommand := by
  unfold Obligations.ResetEventAbandonsCommand
  exact fun s rest hagenda => ⟨_, step_reset hagenda, status_word_initial, rfl, rfl, rfl, rfl, rfl, rfl, rfl,
    fun a => ⟨read?_nil a, read?_nil a, read?_nil a⟩⟩

/-- Settles O41: by the laws of one write. -/
theorem memoryReadAfterWrite : Obligations.MemoryReadAfterWrite := by
  unfold Obligations.MemoryReadAfterWrite
  exact fun m a a' v => ⟨read?_write_same m a v, read?_write_other m v, fun h => wf_write h a v,
    fun size h ha => within_write h ha v⟩

end

end Sys2Proof.Machine
end
